-- ==== Sys2Proof/Word.lean ====
section
/-! DEFINITION. The word types of the HT49R50A (spec R6, R9). -/

namespace Sys2Proof

/-- A data-memory byte, an accumulator value, an operand address `m` or an immediate `x` (R6). -/
abbrev Byte := BitVec 8

/-- A program-memory address, the program counter and a stack entry (R21, R28). -/
abbrev PAddr := BitVec 12

/-- A program-memory word (R81, R120). -/
abbrev PWord := BitVec 15

end Sys2Proof
end

