-- ==== Sys2Proof/Syntax.lean ====
section
/-! DEFINITION. The syntax of the 63 instructions, one constructor per row of spec/opcode_table.json, in the
order of rule R123. Operands have the exact widths of R122, so an instruction with an operand out of
range cannot be written. -/

namespace Sys2Proof

/-- An instruction (R123). `m` is a data-memory operand address, `x` an immediate, `i` a bit index,
`addr` a program-memory address. -/
inductive Instr where
  /-- ADD A,[m] (R151). -/
  | addA (m : Byte)
  /-- ADDM A,[m] (R152). -/
  | addM (m : Byte)
  /-- ADD A,x (R153). -/
  | addX (x : Byte)
  /-- ADC A,[m] (R154). -/
  | adcA (m : Byte)
  /-- ADCM A,[m] (R155). -/
  | adcM (m : Byte)
  /-- SUB A,x (R156). -/
  | subX (x : Byte)
  /-- SUB A,[m] (R157). -/
  | subA (m : Byte)
  /-- SUBM A,[m] (R158). -/
  | subM (m : Byte)
  /-- SBC A,[m] (R159). -/
  | sbcA (m : Byte)
  /-- SBCM A,[m] (R160). -/
  | sbcM (m : Byte)
  /-- DAA [m] (R161). -/
  | daa (m : Byte)
  /-- AND A,[m] (R171). -/
  | andA (m : Byte)
  /-- OR A,[m] (R172). -/
  | orA (m : Byte)
  /-- XOR A,[m] (R173). -/
  | xorA (m : Byte)
  /-- ANDM A,[m] (R174). -/
  | andM (m : Byte)
  /-- ORM A,[m] (R175). -/
  | orM (m : Byte)
  /-- XORM A,[m] (R176). -/
  | xorM (m : Byte)
  /-- AND A,x (R177). -/
  | andX (x : Byte)
  /-- OR A,x (R178). -/
  | orX (x : Byte)
  /-- XOR A,x (R179). -/
  | xorX (x : Byte)
  /-- CPL [m] (R180). -/
  | cpl (m : Byte)
  /-- CPLA [m] (R181). -/
  | cplA (m : Byte)
  /-- INCA [m] (R191). -/
  | incA (m : Byte)
  /-- INC [m] (R192). -/
  | inc (m : Byte)
  /-- DECA [m] (R193). -/
  | decA (m : Byte)
  /-- DEC [m] (R194). -/
  | dec (m : Byte)
  /-- RRA [m] (R201). -/
  | rrA (m : Byte)
  /-- RR [m] (R202). -/
  | rr (m : Byte)
  /-- RRCA [m] (R203). -/
  | rrcA (m : Byte)
  /-- RRC [m] (R204). -/
  | rrc (m : Byte)
  /-- RLA [m] (R205). -/
  | rlA (m : Byte)
  /-- RL [m] (R206). -/
  | rl (m : Byte)
  /-- RLCA [m] (R207). -/
  | rlcA (m : Byte)
  /-- RLC [m] (R208). -/
  | rlc (m : Byte)
  /-- MOV A,[m] (R216). -/
  | movA (m : Byte)
  /-- MOV [m],A (R217). -/
  | movM (m : Byte)
  /-- MOV A,x (R218). -/
  | movX (x : Byte)
  /-- CLR [m].i (R226). -/
  | clrBit (m : Byte) (i : BitVec 3)
  /-- SET [m].i (R227). -/
  | setBit (m : Byte) (i : BitVec 3)
  /-- JMP addr (R231). -/
  | jmp (addr : PAddr)
  /-- SZ [m] (R232). -/
  | sz (m : Byte)
  /-- SZA [m] (R233). -/
  | szA (m : Byte)
  /-- SZ [m].i (R234). -/
  | szBit (m : Byte) (i : BitVec 3)
  /-- SNZ [m].i (R235). -/
  | snzBit (m : Byte) (i : BitVec 3)
  /-- SIZ [m] (R236). -/
  | siz (m : Byte)
  /-- SDZ [m] (R237). -/
  | sdz (m : Byte)
  /-- SIZA [m] (R238). -/
  | sizA (m : Byte)
  /-- SDZA [m] (R239). -/
  | sdzA (m : Byte)
  /-- CALL addr (R240). -/
  | call (addr : PAddr)
  /-- RET (R241). -/
  | ret
  /-- RET A,x (R242). -/
  | retX (x : Byte)
  /-- RETI (R243). -/
  | reti
  /-- TABRDC [m] (R261). -/
  | tabrdc (m : Byte)
  /-- TABRDL [m] (R262). -/
  | tabrdl (m : Byte)
  /-- NOP (R270). -/
  | nop
  /-- CLR [m] (R271). -/
  | clrAll (m : Byte)
  /-- SET [m] (R272). -/
  | setAll (m : Byte)
  /-- CLR WDT (R273). -/
  | clrWdt
  /-- CLR WDT1 (R274). -/
  | clrWdt1
  /-- CLR WDT2 (R275). -/
  | clrWdt2
  /-- SWAP [m] (R276). -/
  | swap (m : Byte)
  /-- SWAPA [m] (R277). -/
  | swapA (m : Byte)
  /-- HALT (R278). -/
  | halt
deriving DecidableEq, Repr

/-- Why a word is no instruction (R127, R128). -/
inductive DecodeError where
  /-- Slot 00H with a sub-opcode above 06H. -/
  | unassignedSub
  /-- Slots 2CH..2FH and 37H..3FH. -/
  | unassignedSlot
deriving DecidableEq, Repr

end Sys2Proof
end

