-- ==== Sys2Proof/Decode.lean ====
section
/-! DEFINITION. SPEC_ENC (R124 to R127): the decoder, total on 15-bit words and rejecting by name, and the
encoder. SPEC_ENC is the spec's own encoding, not the device's (decision D1, log 4). -/

namespace Sys2Proof

/-- Format N, slot 00H: the sub-opcode `w[7:0]` (R125). -/
def decodeSub (sub : Byte) : Except DecodeError Instr :=
  match sub.toNat with
  | 0x00 => .ok .nop
  | 0x01 => .ok .ret
  | 0x02 => .ok .reti
  | 0x03 => .ok .clrWdt
  | 0x04 => .ok .clrWdt1
  | 0x05 => .ok .clrWdt2
  | 0x06 => .ok .halt
  | _ => .error .unassignedSub

/-- Formats N, M and I: `slot = w[13:8]` selects the instruction, `lo = w[7:0]` is its operand (R125). -/
def decodeSlot (slot : BitVec 6) (lo : Byte) : Except DecodeError Instr :=
  match slot.toNat with
  | 0x00 => decodeSub lo
  | 0x01 => .ok (.addA lo)
  | 0x02 => .ok (.addM lo)
  | 0x03 => .ok (.adcA lo)
  | 0x04 => .ok (.adcM lo)
  | 0x05 => .ok (.subA lo)
  | 0x06 => .ok (.subM lo)
  | 0x07 => .ok (.sbcA lo)
  | 0x08 => .ok (.sbcM lo)
  | 0x09 => .ok (.daa lo)
  | 0x0A => .ok (.andA lo)
  | 0x0B => .ok (.orA lo)
  | 0x0C => .ok (.xorA lo)
  | 0x0D => .ok (.andM lo)
  | 0x0E => .ok (.orM lo)
  | 0x0F => .ok (.xorM lo)
  | 0x10 => .ok (.cpl lo)
  | 0x11 => .ok (.cplA lo)
  | 0x12 => .ok (.incA lo)
  | 0x13 => .ok (.inc lo)
  | 0x14 => .ok (.decA lo)
  | 0x15 => .ok (.dec lo)
  | 0x16 => .ok (.rrA lo)
  | 0x17 => .ok (.rr lo)
  | 0x18 => .ok (.rrcA lo)
  | 0x19 => .ok (.rrc lo)
  | 0x1A => .ok (.rlA lo)
  | 0x1B => .ok (.rl lo)
  | 0x1C => .ok (.rlcA lo)
  | 0x1D => .ok (.rlc lo)
  | 0x1E => .ok (.movA lo)
  | 0x1F => .ok (.movM lo)
  | 0x20 => .ok (.sz lo)
  | 0x21 => .ok (.szA lo)
  | 0x22 => .ok (.siz lo)
  | 0x23 => .ok (.sdz lo)
  | 0x24 => .ok (.sizA lo)
  | 0x25 => .ok (.sdzA lo)
  | 0x26 => .ok (.tabrdc lo)
  | 0x27 => .ok (.tabrdl lo)
  | 0x28 => .ok (.clrAll lo)
  | 0x29 => .ok (.setAll lo)
  | 0x2A => .ok (.swap lo)
  | 0x2B => .ok (.swapA lo)
  | 0x30 => .ok (.addX lo)
  | 0x31 => .ok (.subX lo)
  | 0x32 => .ok (.andX lo)
  | 0x33 => .ok (.orX lo)
  | 0x34 => .ok (.xorX lo)
  | 0x35 => .ok (.movX lo)
  | 0x36 => .ok (.retX lo)
  | _ => .error .unassignedSlot

/-- Format J: `j = w[12]`, `addr = w[11:0]` (R124). -/
def decodeJump (j : Bool) (addr : PAddr) : Instr :=
  if j then .call addr else .jmp addr

/-- Format B: `b = w[12:11]`, `i = w[10:8]`, `m = w[7:0]` (R124). -/
def decodeBit (b : BitVec 2) (m : Byte) (i : BitVec 3) : Instr :=
  if b = 0 then .clrBit m i
  else if b = 1 then .setBit m i
  else if b = 2 then .szBit m i
  else .snzBit m i

/-- The decoder of R127. -/
def decode (w : PWord) : Except DecodeError Instr :=
  if w.extractLsb' 13 2 = 0b10#2 then
    .ok (decodeJump (w.getLsbD 12) (w.extractLsb' 0 12))
  else if w.extractLsb' 13 2 = 0b11#2 then
    .ok (decodeBit (w.extractLsb' 11 2) (w.extractLsb' 0 8) (w.extractLsb' 8 3))
  else
    decodeSlot (w.extractLsb' 8 6) (w.extractLsb' 0 8)

/-- The open parameter ENC of D1: which instruction each word spells. SPEC_ENC, `decode`, is the default (R124);
the machine takes the encoding as an argument (Machine/Run.lean). -/
abbrev Encoding := PWord → Except DecodeError Instr

/-- The instruction the decoder reads from an instruction word whose bits are `w`, of which `nbits` are
given and the others are 0. A program word has 15 bits: a number that needs more is no word. -/
def decodeTableWord (nbits w : Nat) : Option Instr :=
  if w % 2 ^ nbits < 2 ^ 15 then
    match decode (BitVec.ofNat 15 (w % 2 ^ nbits)) with
    | .ok i => some i
    | .error _ => none
  else none

/-- A word of format N. -/
def encodeSub (sub : Byte) : PWord := 0#7 ++ sub

/-- A word of formats M and I: a 0, the slot, the operand. -/
def encodeSlot (slot : BitVec 6) (lo : Byte) : PWord := (0#1 ++ slot) ++ lo

/-- A word of format J. -/
def encodeJump (op : BitVec 3) (addr : PAddr) : PWord := op ++ addr

/-- A word of format B. -/
def encodeBit (op : BitVec 4) (i : BitVec 3) (m : Byte) : PWord := (op ++ i) ++ m

/-- The encoder of SPEC_ENC (R125): the word of an instruction. -/
def encode : Instr → PWord
  | .addA m => encodeSlot 0x01 m
  | .addM m => encodeSlot 0x02 m
  | .addX x => encodeSlot 0x30 x
  | .adcA m => encodeSlot 0x03 m
  | .adcM m => encodeSlot 0x04 m
  | .subX x => encodeSlot 0x31 x
  | .subA m => encodeSlot 0x05 m
  | .subM m => encodeSlot 0x06 m
  | .sbcA m => encodeSlot 0x07 m
  | .sbcM m => encodeSlot 0x08 m
  | .daa m => encodeSlot 0x09 m
  | .andA m => encodeSlot 0x0A m
  | .orA m => encodeSlot 0x0B m
  | .xorA m => encodeSlot 0x0C m
  | .andM m => encodeSlot 0x0D m
  | .orM m => encodeSlot 0x0E m
  | .xorM m => encodeSlot 0x0F m
  | .andX x => encodeSlot 0x32 x
  | .orX x => encodeSlot 0x33 x
  | .xorX x => encodeSlot 0x34 x
  | .cpl m => encodeSlot 0x10 m
  | .cplA m => encodeSlot 0x11 m
  | .incA m => encodeSlot 0x12 m
  | .inc m => encodeSlot 0x13 m
  | .decA m => encodeSlot 0x14 m
  | .dec m => encodeSlot 0x15 m
  | .rrA m => encodeSlot 0x16 m
  | .rr m => encodeSlot 0x17 m
  | .rrcA m => encodeSlot 0x18 m
  | .rrc m => encodeSlot 0x19 m
  | .rlA m => encodeSlot 0x1A m
  | .rl m => encodeSlot 0x1B m
  | .rlcA m => encodeSlot 0x1C m
  | .rlc m => encodeSlot 0x1D m
  | .movA m => encodeSlot 0x1E m
  | .movM m => encodeSlot 0x1F m
  | .movX x => encodeSlot 0x35 x
  | .clrBit m i => encodeBit 0b1100 i m
  | .setBit m i => encodeBit 0b1101 i m
  | .jmp addr => encodeJump 0b100 addr
  | .sz m => encodeSlot 0x20 m
  | .szA m => encodeSlot 0x21 m
  | .szBit m i => encodeBit 0b1110 i m
  | .snzBit m i => encodeBit 0b1111 i m
  | .siz m => encodeSlot 0x22 m
  | .sdz m => encodeSlot 0x23 m
  | .sizA m => encodeSlot 0x24 m
  | .sdzA m => encodeSlot 0x25 m
  | .call addr => encodeJump 0b101 addr
  | .ret => encodeSub 0x01
  | .retX x => encodeSlot 0x36 x
  | .reti => encodeSub 0x02
  | .tabrdc m => encodeSlot 0x26 m
  | .tabrdl m => encodeSlot 0x27 m
  | .nop => encodeSub 0x00
  | .clrAll m => encodeSlot 0x28 m
  | .setAll m => encodeSlot 0x29 m
  | .clrWdt => encodeSub 0x03
  | .clrWdt1 => encodeSub 0x04
  | .clrWdt2 => encodeSub 0x05
  | .swap m => encodeSlot 0x2A m
  | .swapA m => encodeSlot 0x2B m
  | .halt => encodeSub 0x06

end Sys2Proof
end

