-- ==== Sys2Proof/Machine/Bits.lean ====
section
/-! DEFINITION. Bit fields: composing a byte from bits, setting and clearing a bit, rotating and swapping
(R9, R200, R225, R276). -/

namespace Sys2Proof.Machine

/-- The byte with the given bits, bit 7 first, as the spec prints registers. -/
def byteOf (b7 b6 b5 b4 b3 b2 b1 b0 : Bool) : Byte :=
  BitVec.ofNat 8 (128 * b7.toNat + 64 * b6.toNat + 32 * b5.toNat + 16 * b4.toNat +
    8 * b3.toNat + 4 * b2.toNat + 2 * b1.toNat + b0.toNat)

/-- `v and ~(1 << i)` (R226). -/
def clearBit (i : BitVec 3) (v : Byte) : Byte := v &&& ~~~(1#8 <<< i.toNat)

/-- `v or (1 << i)` (R227). -/
def setBit (i : BitVec 3) (v : Byte) : Byte := v ||| (1#8 <<< i.toNat)

/-- `v[0] : v[7:1]` (R201, R202). -/
def rotateRight (v : Byte) : Byte := v.extractLsb' 0 1 ++ v.extractLsb' 1 7

/-- `v[6:0] : v[7]` (R205, R206). -/
def rotateLeft (v : Byte) : Byte := v.extractLsb' 0 7 ++ v.extractLsb' 7 1

/-- `c : v[7:1]` (R203, R204). -/
def rotateRightIn (c : Bool) (v : Byte) : Byte := BitVec.ofBool c ++ v.extractLsb' 1 7

/-- `v[6:0] : c` (R207, R208). -/
def rotateLeftIn (c : Bool) (v : Byte) : Byte := v.extractLsb' 0 7 ++ BitVec.ofBool c

/-- `v[3:0] : v[7:4]` (R276, R277). -/
def swapNibbles (v : Byte) : Byte := v.extractLsb' 0 4 ++ v.extractLsb' 4 4

end Sys2Proof.Machine
end

