-- ==== Sys2Proof/Config.lean ====
section
/-! DEFINITION. What a programmed device fixes (the 21 options of R5 and the open parameter
TIMING of decision D15) and the free values: constants without a body for what the spec leaves
open. -/

namespace Sys2Proof.Config

/-- Option 1: the system oscillator. -/
inductive Osc where
  | rc | crystal | crystal32768
deriving DecidableEq, Repr

/-- Option 2: the source of the clock fs of the watchdog, time base and RTC. -/
inductive FsClk where
  | sysDiv4 | rtcOsc | wdtOsc
deriving DecidableEq, Repr

/-- Option 4: which of the two watchdog clearing instruction types is active. -/
inductive ClrWdtTimes where
  | one | two
deriving DecidableEq, Repr

/-- Option 10: the system clock source of timer 0. -/
inductive T0Clk where
  | sys | sysDiv4
deriving DecidableEq, Repr

/-- Option 11: the option clock source of timer 1. -/
inductive T1Clk where
  | tmr0Ovf | sys | tbOvf
deriving DecidableEq, Repr

/-- Option 14: LCD bias. -/
inductive LcdBias where
  | half | third
deriving DecidableEq, Repr

/-- Option 15: LCD bias type. -/
inductive LcdBiasType where
  | r | c
deriving DecidableEq, Repr

/-- Option 18: the LVD voltage. -/
inductive LvdVoltage where
  | v22 | v33
deriving DecidableEq, Repr

/-- Option 21: which timer overflow makes the PFD output. -/
inductive PfdSrc where
  | pfd0 | pfd1
deriving DecidableEq, Repr

/-- The open parameter TIMING of D15. `free`: the environment alone places the cycles of the system
clock. `cycleExact`: every instruction cycle is followed by its four system clocks (log 25). -/
inductive Timing where
  | free | cycleExact
deriving DecidableEq, Repr

/-- The configuration record OPT of R5, one field per option in the source's order, and TIMING. Option 8 is one
choice for PA0 to PA3 and PC together, as R5's one field has it; R360's "each as a group" could mean one
choice for each: DESIGN CHOICE (log 33). -/
structure Options where
  osc         : Osc
  wdtClk      : FsClk
  wdtEn       : Bool
  clrWdtTimes : ClrWdtTimes
  tbDiv       : Nat
  bzDiv       : Nat
  paWake      : BitVec 8
  pullHigh    : Bool
  paLowCmos   : Bool
  pcCmos      : Bool
  t0Clk       : T0Clk
  t1Clk       : T1Clk
  pa01Bz      : Bool
  pa3Pfd      : Bool
  lcdCom      : Nat
  lcdBias     : LcdBias
  lcdBiasType : LcdBiasType
  lcdClkDiv   : Nat
  lcdOnAtHalt : Bool
  lvdVoltage  : LvdVoltage
  lvrEn       : Bool
  lvdEn       : Bool
  pfdSrc      : PfdSrc
  timing      : Timing
deriving DecidableEq, Repr

/-- DESIGN CHOICE (log 5), unsafe: the options `State.reset` carries. The watchdog options are those of
the spec's test programs (95_test_vectors.md part 4); no statement rests on this record. -/
def Options.standard : Options where
  osc := .rc
  wdtClk := .wdtOsc
  wdtEn := true
  clrWdtTimes := .one
  tbDiv := 12
  bzDiv := 2
  paWake := 0
  pullHigh := true
  paLowCmos := false
  pcCmos := false
  t0Clk := .sysDiv4
  t1Clk := .tmr0Ovf
  pa01Bz := false
  pa3Pfd := false
  lcdCom := 4
  lcdBias := .third
  lcdBiasType := .r
  lcdClkDiv := 2
  lcdOnAtHalt := true
  lvdVoltage := .v22
  lvrEn := false
  lvdEn := false
  pfdSrc := .pfd0
  timing := .free

/-- Free value (log 10): bits 7..4 of the n-th drawn LCD read, `draw(4)` of R90. -/
opaque drawNibble : Nat → BitVec 4

/-- Free value (log 11): the levels of floating or unknown pads at the n-th drawn read, `draw(1)` of
R361 and the "U" of R344, one bit per pin. -/
opaque drawPads : Nat → BitVec 8

/-- Free value (log 12): whether the n-th drawn read of a running timer loses a count event (R339). -/
opaque drawLost : Nat → Bool

/-- Free value (log 13): the position of the time base or RTC period where R353 makes no claim. -/
opaque drawPhase : Nat → BitVec 15

/-- Free value (log 13): the position of the buzzer divider where the spec makes no claim. -/
opaque drawBuzzer : Nat → BitVec 9

/-- Free value (log 31): the PFD flip-flop after a chip reset, where R68 calls it unknown and R401 does not
list it. -/
opaque drawPfd : Nat → Bool

/-- Free value (log 3): what a table read finds at an address nobody programmed (R128). -/
opaque erasedWord : BitVec 12 → BitVec 15

/-- Free value (log 9): the cycles beyond two of a table read whose destination is PCL (R420). -/
opaque drawCycles : Nat → Nat

end Sys2Proof.Config
end

