-- ==== Sys2Proof/Machine/State.lean ====
section
/-! DEFINITION. The state of the machine: every piece of state the spec names (INVENTORY.md, heading State),
the inputs its rules read, and the script of events still to come. Plain data. -/

namespace Sys2Proof.Machine

/-- C, AC, Z and OV: bits 0 to 3 of STATUS (R32). -/
structure Flags where
  c  : Bool
  ac : Bool
  z  : Bool
  ov : Bool
deriving DecidableEq, Repr

/-- The six interrupt sources in priority order (R302). -/
inductive Source where
  | int0 | int1 | t0 | t1 | tb | rtc
deriving DecidableEq, Repr

/-- One bit for each interrupt source: the enable bits or the request flags of INTC0 and INTC1
(R43, R44). -/
structure SourceBits where
  int0 : Bool
  int1 : Bool
  t0   : Bool
  t1   : Bool
  tb   : Bool
  rtc  : Bool
deriving DecidableEq, Repr

/-- The phase of a pulse width measurement (R338); `idle` is the phase after reset (R401). -/
inductive Phase where
  | idle | wait | count | done
deriving DecidableEq, Repr

/-- One timer/event counter (R46 to R48, R56). `blk` is the model's own: the next count event is lost to
a read of the counter (R339, log 12). -/
structure Timer where
  cnt   : Byte
  pre   : Byte
  te    : Bool
  ton   : Bool
  tn2   : Bool
  tn0   : Bool
  tn1   : Bool
  phase : Phase
  blk   : Bool
deriving DecidableEq, Repr

/-- The values a power-on leaves in the registers whose reset value is unknown (R65 column 1, R408). The
event that powers the chip on carries them: any values (log 20). -/
structure Unknowns where
  acc   : Byte
  mp0   : Byte
  mp1   : Byte
  tblp  : Byte
  tblh  : BitVec 7
  flags : Flags
  t0Cnt : Byte
  t0Pre : Byte
  t1Cnt : Byte
  t1Pre : Byte
  pfdFF : Bool
deriving DecidableEq, Repr

/-- A unit that a clock drives, as an agent of its own (R7). -/
inductive ClockedUnit where
  | timer0 | timer1 | timeBase | rtc | buzzer | watchdog
deriving DecidableEq, Repr

/-- One entry of the environment's script (R7, R414, log 6). -/
inductive Event where
  /-- The core runs one instruction without acknowledging an interrupt: one instruction of the latency
  that decision D13 allows (log 7). -/
  | run
  /-- The core makes its own step at an instruction boundary: the pending interrupt's entry, else one
  instruction (R310, R311). -/
  | core
  /-- One cycle of the system clock. -/
  | sysClock
  /-- One cycle of fs, where fs is the WDT oscillator or the RTC oscillator (R346). -/
  | fsCycle
  /-- One cycle of its clock at one unit alone, so that the units' steps interleave in any order (R7, R414,
  log 15): the system clock's timers, and the chains of fs. -/
  | unit (u : ClockedUnit)
  /-- The outside drives the pins anew: which PA and PC pins are driven and to what level, and the PB pad
  levels (R361, R363). -/
  | pads (paDriven paLevel pb : Byte) (pcDriven pcLevel : BitVec 4)
  /-- The supply is below the LVD voltage, or no longer (R370). -/
  | supply (low : Bool)
  /-- A low pulse on RES (R402). -/
  | res
  /-- Power-on (R403). -/
  | powerOn (x : Unknowns)
  /-- The supply falls below the LVR voltage (R371, R407). -/
  | lowVoltage (x : Unknowns) (tof pdf : Bool)
deriving DecidableEq, Repr

/-- The machine. Field by field in INVENTORY.md, heading State. -/
structure State where
  pc       : PAddr
  stk      : List PAddr
  acc      : Byte
  mp0      : Byte
  mp1      : Byte
  bp       : Bool
  tblp     : Byte
  tblh     : BitVec 7
  flags    : Flags
  pdf      : Bool
  tof      : Bool
  halted   : Bool
  emi      : Bool
  en       : SourceBits
  req      : SourceBits
  rt       : BitVec 3
  lvdc     : Bool
  qosc     : Bool
  t0       : Timer
  t1       : Timer
  pfdFF    : Bool
  wdtCnt   : BitVec 16
  tbCnt    : BitVec 15
  rtcCnt   : BitVec 15
  bzCnt    : BitVec 9
  wdt1Done : Bool
  wdt2Done : Bool
  tPhase   : BitVec 2
  paLatch  : Byte
  pcLatch  : BitVec 4
  ram      : List Host.Cell
  lcd      : List (Nat × BitVec 4)
  pm       : List (Nat × PWord)
  paDriven : Byte
  paLevel  : Byte
  pb       : Byte
  pcDriven : BitVec 4
  pcLevel  : BitVec 4
  vddLow   : Bool
  env      : List Event
  opt      : Config.Options
  draws    : Nat
  cycles   : Nat
deriving DecidableEq, Repr

/-- Why the machine stops with a fault: a location that holds no value is read or executed (R68, log 2,
log 3). -/
inductive Fault where
  /-- A read of general-purpose RAM that nothing has written since power-on (R68). Raised by `readLoc`.
  Safe: the chip reads some value. -/
  | unwrittenRam (a : Byte)
  /-- A read of LCD memory that nothing has written since power-on (R68). Raised by `readLoc`. Safe. -/
  | unwrittenLcd (a : Byte)
  /-- A fetch of a program word nobody programmed (R128). Raised by `runInstr`. Safe. -/
  | unprogrammedWord (a : PAddr)
deriving DecidableEq, Repr

/-- Why the machine refuses to go on: the situations to which the spec gives no meaning (R300, 'refuse' of
R10). Each is safe: the model claims nothing about such a run. -/
inductive Refusal where
  /-- An instruction without a meaning in this model. Raised by no arm of `exec` (all are modelled). Safe. -/
  | notModelled (mnemonic : String)
  /-- A word that spells no instruction (R128, D2). Raised by `runInstr`. Safe. -/
  | unassignedWord (w : PWord)
  /-- A data access to bank-0 20H..5FH (R92, D8). Raised by `readLoc` and `writeLoc`. Safe. -/
  | absentData (a : Byte)
  /-- An IAR1 access with BP = 1 and MP1 outside 40H..60H (R87, D9). Raised by `resolve`. Safe. -/
  | bank1Hole (a : Byte)
  /-- RET, RET A,x or RETI with an empty stack (R31, D5). Raised by `popPc`. Safe. -/
  | emptyStack
  /-- A flag-computing instruction whose destination is STATUS (R35, D11). Raised by `flagDest`. Safe. -/
  | statusDest
  /-- An instruction that writes PCL and whose skip condition holds (R26, D3). Raised by `stepSkip`. Safe. -/
  | pclSkip
  /-- DAA with low nibble above 9 and AC = 1 (R161, D25). Raised by `execDaa`. Safe. -/
  | daaCorner
  /-- TON written 1 with TN1, TN0 = 00 (R336, D21). Raised by `writeLoc`. Safe. -/
  | timerModeUnused
deriving DecidableEq, Repr

/-- No source: every enable bit or request flag 0. -/
def SourceBits.none : SourceBits := ⟨false, false, false, false, false, false⟩

/-- A timer/event counter after a chip reset: control register 08H (R65, R401), counter and preload as
given. -/
def Timer.afterReset (cnt pre : Byte) : Timer where
  cnt := cnt
  pre := pre
  te := true
  ton := false
  tn2 := false
  tn0 := false
  tn1 := false
  phase := .idle
  blk := false

/-- The machine right after power-on (R408, R65 column 1). Registers whose value is unknown hold 0 and the
inputs are at rest: DESIGN CHOICE, unsafe (log 1, log 5, log 29). -/
def State.reset : State where
  pc := 0
  stk := []
  acc := 0
  mp0 := 0
  mp1 := 0
  bp := false
  tblp := 0
  tblh := 0
  flags := ⟨false, false, false, false⟩
  pdf := false
  tof := false
  halted := false
  emi := false
  en := SourceBits.none
  req := SourceBits.none
  rt := 7
  lvdc := false
  qosc := false
  t0 := Timer.afterReset 0 0
  t1 := Timer.afterReset 0 0
  pfdFF := false
  wdtCnt := 0
  tbCnt := 0
  rtcCnt := 0
  bzCnt := 0
  wdt1Done := false
  wdt2Done := false
  tPhase := 0
  paLatch := 0xFF
  pcLatch := 0xF
  ram := []
  lcd := []
  pm := []
  paDriven := 0
  paLevel := 0xFF
  pb := 0xFF
  pcDriven := 0
  pcLevel := 0xF
  vddLow := false
  env := []
  opt := Config.Options.standard
  draws := 0
  cycles := 0

end Sys2Proof.Machine
end

