-- ==== Sys2Proof/Machine/Flags.lean ====
section
/-! DEFINITION. Every flag computation: the adder of R150, the zero flag of R170 and R190, the carry of the
rotates of R200, and the decimal adjustment of R161. -/

namespace Sys2Proof.Machine

/-- The adder with its four flags (R150). Exact arithmetic on naturals, narrowed once. -/
def add8 (a b : Byte) (cin : Bool) : Byte × Flags :=
  let s := a.toNat + b.toNat + cin.toNat
  let r := BitVec.ofNat 8 s
  let c := decide (256 ≤ s)
  let c7 := decide (128 ≤ a.toNat % 128 + b.toNat % 128 + cin.toNat)
  (r, { c := c
        ac := decide (16 ≤ a.toNat % 16 + b.toNat % 16 + cin.toNat)
        z := decide (r = 0)
        ov := c7 != c })

/-- An operation of the arithmetic and logic unit: from the first operand, the flags before and the second
operand, the result and the flags after. -/
abbrev AluOp := Byte → Flags → Byte → Byte × Flags

/-- The result of an operation that writes Z alone (R170, R190). -/
def withZ (r : Byte) (f : Flags) : Byte × Flags := (r, { f with z := decide (r = 0) })

/-- ADD: `add8(ACC, b, 0)` (R151). -/
def aluAdd : AluOp := fun a _ b => add8 a b false
/-- ADC: `add8(ACC, b, C)` (R154). -/
def aluAdc : AluOp := fun a f b => add8 a b f.c
/-- SUB: `add8(ACC, ~b, 1)` (R163). -/
def aluSub : AluOp := fun a _ b => add8 a (~~~b) true
/-- SBC: `add8(ACC, ~b, C)` (R163). -/
def aluSbc : AluOp := fun a f b => add8 a (~~~b) f.c
/-- AND (R171). -/
def aluAnd : AluOp := fun a f b => withZ (a &&& b) f
/-- OR (R172). -/
def aluOr : AluOp := fun a f b => withZ (a ||| b) f
/-- XOR (R173). -/
def aluXor : AluOp := fun a f b => withZ (a ^^^ b) f
/-- CPL: the complement of the memory operand (R180). -/
def aluCpl : AluOp := fun _ f b => withZ (~~~b) f
/-- INC, modulo 256, Z alone (R190). -/
def aluInc : AluOp := fun _ f b => withZ (b + 1) f
/-- DEC, modulo 256, Z alone (R190). -/
def aluDec : AluOp := fun _ f b => withZ (b - 1) f
/-- Rotate right through carry: C takes bit 0 (R203). -/
def aluRrc : AluOp := fun _ f b => (rotateRightIn f.c b, { f with c := b.getLsbD 0 })
/-- Rotate left through carry: C takes bit 7 (R207). -/
def aluRlc : AluOp := fun _ f b => (rotateLeftIn f.c b, { f with c := b.getLsbD 7 })
/-- An operation on the memory operand alone that writes no flag: moves, rotates, SWAP. -/
def aluPlain (g : Byte → Byte) : AluOp := fun _ f b => (g b, f)

/-- The decimal adjustment of R161: the byte stored and C after. None in the corner the spec refuses, low
nibble above 9 with AC = 1 (D25). -/
def daaAdjust (acc : Byte) (f : Flags) : Option (Byte × Bool) :=
  let lo := acc.toNat % 16
  let hi := acc.toNat / 16
  if 9 < lo ∧ f.ac = true then none
  else
    let nlo := if 9 < lo ∨ f.ac = true then (lo + 6) % 16 else lo
    let ac1 := if 9 < lo then 1 else 0
    if 9 < hi + ac1 ∨ f.c = true then
      some (BitVec.ofNat 8 (16 * ((hi + 6 + ac1) % 16) + nlo), true)
    else
      some (BitVec.ofNat 8 (16 * ((hi + ac1) % 16) + nlo), f.c)

end Sys2Proof.Machine
end

