-- ==== Sys2Proof/Machine/Memory.lean ====
section
/-! DEFINITION. The three memories are lists of (address, value) pairs in one canonical form: addresses strictly
rising, each in the memory's range. A location that is not listed holds no value (R68, log 2, log 3),
so no entry ever equals what an unlisted location reads as. -/

namespace Sys2Proof.Machine

/-- The value at an address, none where nothing was ever written. -/
def Memory.read {α : Type} : List (Nat × α) → Nat → Option α
  | [], _ => none
  | (b, w) :: t, a => if b = a then some w else Memory.read t a

/-- The memory after a write. Keeps the canonical form (Laws/Memory.lean, `Memory.write_wf`). -/
def Memory.write {α : Type} : List (Nat × α) → Nat → α → List (Nat × α)
  | [], a, v => [(a, v)]
  | (b, w) :: t, a, v =>
    if a < b then (a, v) :: (b, w) :: t
    else if a = b then (a, v) :: t
    else (b, w) :: Memory.write t a v

/-- The canonical form over the addresses lo to hi: every address in range, each greater than the one
before it. -/
def Memory.wf {α : Type} (lo hi : Nat) : List (Nat × α) → Bool
  | [] => true
  | (a, _) :: t => lo ≤ a && a ≤ hi && Memory.wf (a + 1) hi t

/-- The three memories have their canonical form: RAM 60H..FFH (R54), LCD 40H..60H (R55), program memory
000H..FFFH (R80). -/
def State.memWf (s : State) : Bool :=
  Memory.wf 0x60 0xFF s.ram && Memory.wf 0x40 0x60 s.lcd && Memory.wf 0 0xFFF s.pm

end Sys2Proof.Machine
end

