-- ==== Sys2Proof/Machine/Ports.lean ====
section
/-! DEFINITION. The pads and the analogue side as far as a program or an observer sees them: pad levels (R361 to
R363), buzzer and PFD (R344, R362), low voltage detector (R370), LCD dots (R55, R367). -/

namespace Sys2Proof.Machine

/-- The buzzer signal: a square wave of frequency fs / 2^bzDiv (R362, option 6), the top bit of a divider
by 2^bzDiv. Its phase after a reset is log 14. -/
def State.buzzer (s : State) : Bool := s.bzCnt.getLsbD (s.opt.bzDiv - 1)

/-- The timer whose overflow makes the PFD output is on (R344, option 21). -/
def State.pfdTimerOn (s : State) : Bool :=
  match s.opt.pfdSrc with
  | .pfd0 => s.t0.ton
  | .pfd1 => s.t1.ton

/-- Pin i of PA is a CMOS output (option 9): PA0 to PA3 as a group (R360). -/
def State.paCmos (s : State) (i : Nat) : Bool := decide (i < 4) && s.opt.paLowCmos

/-- An NMOS pin whose level is `fl` when nothing decides it (R361): low while its latch bit is 0; else the
external level; else high when pulled up; else floating. -/
def nmosPad (latch driven level pull fl : Bool) : Bool :=
  if !latch then false
  else if driven then level
  else if pull then true
  else fl

/-- The PA0 and PA1 pads with the buzzer function (R362's table). `i` is 0 or 1. -/
def State.buzzerPad (s : State) (i : Nat) : Bool :=
  if s.paLatch.getLsbD 0 then false
  else if i = 0 then s.buzzer
  else if s.paLatch.getLsbD 1 then false
  else !s.buzzer

/-- The PA3 pad with the PFD function (R344's table). `fl` stands for its "U". -/
def State.pfdPad (s : State) (fl : Bool) : Bool :=
  if s.paLatch.getLsbD 3 then false
  else if s.pfdTimerOn then s.pfdFF
  else fl

/-- The level of a PA pin that is a CMOS output: the buzzer or PFD function of option 12 where it has the pin
(R362, R344), else the latch bit (R361). -/
def State.paCmosPad (s : State) (fl : Byte) (i : Nat) : Bool :=
  if s.opt.pa01Bz ∧ i < 2 then s.buzzerPad i
  else if s.opt.pa3Pfd ∧ i = 3 then s.pfdPad (fl.getLsbD i)
  else s.paLatch.getLsbD i

/-- The level of PA pad i (R361): an NMOS pin follows the NMOS constraints whatever option 12 says, since the
functions of option 12 stand under a CMOS output. `fl` gives the level where the spec leaves it open: a floating
pin and the "U" of R344 (log 11). -/
def State.paPad (s : State) (fl : Byte) (i : Nat) : Bool :=
  if s.paCmos i then s.paCmosPad fl i
  else nmosPad (s.paLatch.getLsbD i) (s.paDriven.getLsbD i) (s.paLevel.getLsbD i)
    (decide (4 ≤ i) || s.opt.pullHigh) (fl.getLsbD i)

/-- The level of PC pad i, i below 4 (R361 "and PC, which behaves the same on its four bits"). -/
def State.pcPad (s : State) (fl : Byte) (i : Nat) : Bool :=
  if s.opt.pcCmos then s.pcLatch.getLsbD i
  else nmosPad (s.pcLatch.getLsbD i) (s.pcDriven.getLsbD i) (s.pcLevel.getLsbD i)
    s.opt.pullHigh (fl.getLsbD i)

/-- The eight PA pads. -/
def State.paPads (s : State) (fl : Byte) : Byte :=
  byteOf (s.paPad fl 7) (s.paPad fl 6) (s.paPad fl 5) (s.paPad fl 4)
    (s.paPad fl 3) (s.paPad fl 2) (s.paPad fl 1) (s.paPad fl 0)

/-- `0000 :` the four PC pads (R90). -/
def State.pcPads (s : State) (fl : Byte) : Byte :=
  byteOf false false false false (s.pcPad fl 3) (s.pcPad fl 2) (s.pcPad fl 1) (s.pcPad fl 0)

/-- R370's table: the reference generator runs. -/
def State.vrefEnabled (s : State) : Bool := (s.opt.lvdEn && s.lvdc) || s.opt.lvrEn

/-- R370's table: the low voltage reset comparator runs. -/
def State.lvrEnabled (s : State) : Bool := s.opt.lvrEn

/-- R370's table: the low voltage detector comparator runs. -/
def State.lvdEnabled (s : State) : Bool := s.opt.lvdEn && s.lvdc

/-- LVDO, RTCC bit 5 (R370, D27). -/
def State.lvdo (s : State) : Bool := s.lvdEnabled && s.vddLow

/-- The dot at segment n and common c (R55, R367): bit c of LCD location 40H + n. None where the location was
never written, where the option has fewer commons, or where SEG32 is a common output (R367). -/
def State.lcdDot (s : State) (n c : Nat) : Option Bool :=
  if c < s.opt.lcdCom ∧ n ≤ 32 ∧ ¬ (s.opt.lcdCom = 4 ∧ n = 32) then
    (Memory.read s.lcd (0x40 + n)).map (fun v => v.getLsbD c)
  else none

end Sys2Proof.Machine
end

