-- ==== Sys2Proof/Machine/Ops.lean ====
section
/-! DEFINITION. The named operations over registers and memory: operand resolution (R84), the read and write
rules (R90, R91), the return stack (R28 to R31), program memory (R99, R100), interrupt entry (R313) and
the return. -/

namespace Sys2Proof.Machine

/-- Why an operation stops. -/
inductive Stop where
  | fault (f : Fault)
  | refused (r : Refusal)
deriving DecidableEq, Repr

/-- The result of an operation. -/
abbrev Res (α : Type) := Except Stop α

/-- The outcome of a step from the result of its operations. -/
def outcome : Res State → Host.Outcome State Fault Refusal
  | .ok s => .next s
  | .error (.fault f) => .fault f
  | .error (.refused r) => .refused r

/-- The state while the instruction at `s.pc` executes: the hardware PC holds `pc + 1` (R22), modulo 4096
(R24); one instruction cycle is spent (R420). -/
def fetched (s : State) : State := { s with pc := s.pc + 1, cycles := s.cycles + 1 }

/-- A resolved data location (R84): NULLREG, a bank-0 location, an LCD location of bank 1. -/
inductive Loc where
  | null
  | data (a : Byte)
  | lcd (a : Byte)
deriving DecidableEq, Repr

/-- The location a pointer names in bank 0: a pointer at 00H or 02H does not chain (R84, R86). -/
def pointee (p : Byte) : Loc := if p = 0x00 ∨ p = 0x02 then .null else .data p

/-- `resolve(m)` of R84. -/
def resolve (m : Byte) (s : State) : Res Loc :=
  if m = 0x00 then .ok (pointee s.mp0)
  else if m = 0x02 then
    if s.bp then
      if 0x40 ≤ s.mp1.toNat ∧ s.mp1.toNat ≤ 0x60 then .ok (.lcd s.mp1)
      else .error (.refused (.bank1Hole s.mp1))
    else .ok (pointee s.mp1)
  else .ok (.data m)

/-- STATUS as it reads (R32). -/
def State.status (s : State) : Byte :=
  byteOf false false s.tof s.pdf s.flags.ov s.flags.z s.flags.ac s.flags.c

/-- INTC0 as it reads (R43). -/
def State.intc0 (s : State) : Byte :=
  byteOf false s.req.t0 s.req.int1 s.req.int0 s.en.t0 s.en.int1 s.en.int0 s.emi

/-- INTC1 as it reads (R44). -/
def State.intc1 (s : State) : Byte :=
  byteOf false s.req.rtc s.req.tb s.req.t1 false s.en.rtc s.en.tb s.en.t1

/-- RTCC as it reads (R45). -/
def State.rtcc (s : State) : Byte :=
  byteOf false false s.lvdo s.qosc s.lvdc (s.rt.getLsbD 2) (s.rt.getLsbD 1) (s.rt.getLsbD 0)

/-- TMR0C or TMR1C as it reads (R47, R48). -/
def Timer.control (t : Timer) : Byte :=
  byteOf t.tn1 t.tn0 t.tn2 t.ton t.te false false false

/-- A timer after its counter was read: a running one may lose the next count event (R107, R339). The free
value decides (log 12). -/
def Timer.afterRead (t : Timer) (lost : Bool) : Timer := { t with blk := t.ton && lost }

/-- Read of a special-function register 00H..1FH (R90). `s` is the state during execution, so PCL is the
low byte of its `pc`. -/
def readSfr (a : Nat) (s : State) : Byte × State :=
  match a with
  | 0x01 => (s.mp0, s)
  | 0x03 => (s.mp1, s)
  | 0x04 => (BitVec.ofNat 8 s.bp.toNat, s)
  | 0x05 => (s.acc, s)
  | 0x06 => (s.pc.extractLsb' 0 8, s)
  | 0x07 => (s.tblp, s)
  | 0x08 => (0#1 ++ s.tblh, s)
  | 0x09 => (s.rtcc, s)
  | 0x0A => (s.status, s)
  | 0x0B => (s.intc0, s)
  | 0x0D => (s.t0.cnt, { s with t0 := s.t0.afterRead (Config.drawLost s.draws), draws := s.draws + 1 })
  | 0x0E => (s.t0.control, s)
  | 0x10 => (s.t1.cnt, { s with t1 := s.t1.afterRead (Config.drawLost s.draws), draws := s.draws + 1 })
  | 0x11 => (s.t1.control, s)
  | 0x12 => (s.paPads (Config.drawPads s.draws), { s with draws := s.draws + 1 })
  | 0x14 => (s.pb, s)
  | 0x16 => (s.pcPads (Config.drawPads s.draws), { s with draws := s.draws + 1 })
  | 0x1E => (s.intc1, s)
  | _ => (0, s)

/-- Read of a resolved location (R90): the byte, and the state with the read's side effects. -/
def readLoc (l : Loc) (s : State) : Res (Byte × State) :=
  match l with
  | .null => .ok (0, s)
  | .lcd a =>
    match Memory.read s.lcd a.toNat with
    | some v => .ok (Config.drawNibble s.draws ++ v, { s with draws := s.draws + 1 })
    | none => .error (.fault (.unwrittenLcd a))
  | .data a =>
    if a.toNat < 0x20 then .ok (readSfr a.toNat s)
    else if a.toNat < 0x60 then .error (.refused (.absentData a))
    else
      match Memory.read s.ram a.toNat with
      | some v => .ok (v, s)
      | none => .error (.fault (.unwrittenRam a))

/-- A write of TMR0 or TMR1: the preload register, and the counter too while the timer is off (R332). -/
def Timer.load (t : Timer) (v : Byte) : Timer :=
  { t with pre := v, cnt := if t.ton then t.cnt else v }

/-- A write of TMR0C or TMR1C (R91). Setting TON in pulse width measurement mode enters phase WAIT (R338). What a
write with TON already 1 does to the phase the spec does not say: one that leaves a running measurement on leaves
its phase (DEDUCED), one that switches a running timer from another mode to mode 11 enters WAIT (DESIGN CHOICE;
log 17). -/
def Timer.setControl (t : Timer) (v : Byte) : Timer :=
  { t with
    te := v.getLsbD 3
    ton := v.getLsbD 4
    tn2 := v.getLsbD 5
    tn0 := v.getLsbD 6
    tn1 := v.getLsbD 7
    phase :=
      if v.getLsbD 4 && v.getLsbD 6 && v.getLsbD 7 then
        if t.ton && t.tn0 && t.tn1 then t.phase else .wait
      else .idle }

/-- The value sets TON while TN1, TN0 = 00, the unused mode (R336). -/
def badControl (v : Byte) : Bool := v.getLsbD 4 && !v.getLsbD 6 && !v.getLsbD 7

/-- STATUS written as data: bits 3 to 0 stored, TO and PD kept (R35). -/
def State.setStatus (s : State) (v : Byte) : State :=
  { s with flags := ⟨v.getLsbD 0, v.getLsbD 1, v.getLsbD 2, v.getLsbD 3⟩ }

/-- INTC0 written as data (R91). -/
def State.setIntc0 (s : State) (v : Byte) : State :=
  { s with
    emi := v.getLsbD 0
    en := { s.en with int0 := v.getLsbD 1, int1 := v.getLsbD 2, t0 := v.getLsbD 3 }
    req := { s.req with int0 := v.getLsbD 4, int1 := v.getLsbD 5, t0 := v.getLsbD 6 } }

/-- INTC1 written as data (R91). -/
def State.setIntc1 (s : State) (v : Byte) : State :=
  { s with
    en := { s.en with t1 := v.getLsbD 0, tb := v.getLsbD 1, rtc := v.getLsbD 2 }
    req := { s.req with t1 := v.getLsbD 4, tb := v.getLsbD 5, rtc := v.getLsbD 6 } }

/-- RTCC written as data (R91). R353 makes no claim about the first RTC period after it, so the position in
that period is a free value (log 13). The time base goes on undisturbed: DESIGN CHOICE (log 34), the spec does not say
how its period is aligned to such a write. -/
def State.setRtcc (s : State) (v : Byte) : State :=
  { s with
    rt := v.extractLsb' 0 3
    lvdc := v.getLsbD 3
    qosc := v.getLsbD 4
    rtcCnt := Config.drawPhase s.draws
    draws := s.draws + 1 }

/-- Write of a special-function register 00H..1FH (R91). Read-only and unused locations ignore it. PCL is
the low byte of the hardware PC, `s.pc` during execution (R25). -/
def writeSfr (a : Nat) (v : Byte) (s : State) : Res State :=
  match a with
  | 0x01 => .ok { s with mp0 := v }
  | 0x03 => .ok { s with mp1 := v }
  | 0x04 => .ok { s with bp := v.getLsbD 0 }
  | 0x05 => .ok { s with acc := v }
  | 0x06 => .ok { s with pc := s.pc.extractLsb' 8 4 ++ v }
  | 0x07 => .ok { s with tblp := v }
  | 0x09 => .ok (s.setRtcc v)
  | 0x0A => .ok (s.setStatus v)
  | 0x0B => .ok (s.setIntc0 v)
  | 0x0D => .ok { s with t0 := s.t0.load v }
  | 0x0E => if badControl v then .error (.refused .timerModeUnused) else .ok { s with t0 := s.t0.setControl v }
  | 0x10 => .ok { s with t1 := s.t1.load v }
  | 0x11 => if badControl v then .error (.refused .timerModeUnused) else .ok { s with t1 := s.t1.setControl v }
  | 0x12 => .ok { s with paLatch := v }
  | 0x16 => .ok { s with pcLatch := v.extractLsb' 0 4 }
  | 0x1E => .ok (s.setIntc1 v)
  | _ => .ok s

/-- Write of a resolved location (R91). -/
def writeLoc (l : Loc) (v : Byte) (s : State) : Res State :=
  match l with
  | .null => .ok s
  | .lcd a => .ok { s with lcd := Memory.write s.lcd a.toNat (v.extractLsb' 0 4) }
  | .data a =>
    if a.toNat < 0x20 then writeSfr a.toNat v s
    else if a.toNat < 0x60 then .error (.refused (.absentData a))
    else .ok { s with ram := Memory.write s.ram a.toNat v }

/-- PCL, the low byte of the program counter (R25). -/
def Loc.pcl : Loc := .data 0x06

/-- The STATUS register (R32). -/
def Loc.statusReg : Loc := .data 0x0A

/-- One more instruction cycle: the dummy cycle of a control transfer (R27). -/
def State.dummyCycle (s : State) : State := { s with cycles := s.cycles + 1 }

/-- A write by an instruction: a destination that resolves to PCL transfers control and costs a dummy
cycle (R25, R420). -/
def storeLoc (l : Loc) (v : Byte) (s : State) : Res State :=
  match writeLoc l v s with
  | .ok s' => .ok (if l = Loc.pcl then s'.dummyCycle else s')
  | .error e => .error e

/-- `MemRead(m, 1)`. -/
def memRead (m : Byte) (s : State) : Res (Byte × State) :=
  match resolve m s with
  | .ok l => readLoc l s
  | .error e => .error e

/-- `MemWrite(m, 1, v)`. -/
def memWrite (m : Byte) (v : Byte) (s : State) : Res State :=
  match resolve m s with
  | .ok l => storeLoc l v s
  | .error e => .error e

/-- The word at a program address, as a fetch finds it (R99). -/
def fetchWord (s : State) : Option PWord := Memory.read s.pm s.pc.toNat

/-- The word at a table address (R100). What an unprogrammed word holds is not in the source (R128): a free
value (log 3). -/
def tableWord (a : PAddr) (s : State) : PWord := (Memory.read s.pm a.toNat).getD (Config.erasedWord a)

/-- The stack has no free level (R28). -/
def State.stackFull (s : State) : Bool := decide (6 ≤ s.stk.length)

/-- `push(v)` (R29): on a full stack the oldest entry is lost. -/
def pushPc (v : PAddr) (s : State) : State := { s with stk := v :: s.stk.take 5 }

/-- `pc <- pop()` (R31): the return of RET, RET A,x and RETI. An empty stack is refused (D5). -/
def popPc (s : State) : Res State :=
  match s.stk with
  | [] => .error (.refused .emptyStack)
  | a :: t => .ok { s with pc := a, stk := t }

/-- The bit of a source. -/
def SourceBits.get (b : SourceBits) : Source → Bool
  | .int0 => b.int0
  | .int1 => b.int1
  | .t0 => b.t0
  | .t1 => b.t1
  | .tb => b.tb
  | .rtc => b.rtc

/-- The bits with that of one source replaced. -/
def SourceBits.put (b : SourceBits) (v : Bool) : Source → SourceBits
  | .int0 => { b with int0 := v }
  | .int1 => { b with int1 := v }
  | .t0 => { b with t0 := v }
  | .t1 => { b with t1 := v }
  | .tb => { b with tb := v }
  | .rtc => { b with rtc := v }

/-- The service entry of a source (R302). -/
def Source.vector : Source → PAddr
  | .int0 => 0x004
  | .int1 => 0x008
  | .t0 => 0x00C
  | .t1 => 0x010
  | .tb => 0x014
  | .rtc => 0x018

/-- The sources in priority order, highest first (R302, R314). -/
def Source.all : List Source := [.int0, .int1, .t0, .t1, .tb, .rtc]

/-- A source is requested and enabled: its request flag and its enable bit are 1 (R310). -/
def State.requests (s : State) (src : Source) : Bool := s.en.get src && s.req.get src

/-- The source acknowledged at an instruction boundary: EMI = 1, the stack not full, and of the requested
and enabled sources the one of highest priority (R310, R312, R314). -/
def State.pending (s : State) : Option Source :=
  if s.emi && !s.stackFull then Source.all.find? s.requests else none

/-- Taking an interrupt (R313): push the address of the next instruction, clear the request flag and EMI,
go to the vector. Nothing else changes. -/
def enterInterrupt (src : Source) (s : State) : State :=
  { pushPc s.pc s with
    req := s.req.put false src
    emi := false
    pc := src.vector }

/-- The return from an interrupt (R243, R316): pop the program counter and set EMI. No other state is
restored. -/
def returnFromInterrupt (s : State) : Res State :=
  match popPc s with
  | .ok s' => .ok { s' with emi := true }
  | .error e => .error e

end Sys2Proof.Machine
end

