-- ==== Sys2Proof/Machine/Operands.lean ====
section
/-! DEFINITION. The operand forms the 63 instructions share. Each starts from `fetched s`, reads before it writes
(R162), and resolves a read-modify-write operand once (R93). -/

namespace Sys2Proof.Machine

/-- `OP A,[m]` and the forms ending in A: the result to ACC. -/
def accFromMem (f : AluOp) (m : Byte) (s : State) : Host.Outcome State Fault Refusal :=
  outcome <| match memRead m (fetched s) with
  | .ok (v, s1) =>
    let r := f s1.acc s1.flags v
    .ok { s1 with acc := r.1, flags := r.2 }
  | .error e => .error e

/-- `OP A,x`: the result to ACC. -/
def accFromImm (f : AluOp) (x : Byte) (s : State) : Host.Outcome State Fault Refusal :=
  let s1 := fetched s
  let r := f s1.acc s1.flags x
  .next { s1 with acc := r.1, flags := r.2 }

/-- The destination of an instruction that computes flags: STATUS is refused (R35). -/
def flagDest (m : Byte) (s : State) : Res Loc :=
  match resolve m s with
  | .ok l => if l = Loc.statusReg then .error (.refused .statusDest) else .ok l
  | .error e => .error e

/-- A read-modify-write that writes flags: `OPM A,[m]`, CPL, INC, DEC, RRC, RLC. -/
def memFromMem (f : AluOp) (m : Byte) (s : State) : Host.Outcome State Fault Refusal :=
  outcome <| match flagDest m (fetched s) with
  | .ok l =>
    match readLoc l (fetched s) with
    | .ok (v, s1) =>
      let r := f s1.acc s1.flags v
      match storeLoc l r.1 s1 with
      | .ok s2 => .ok { s2 with flags := r.2 }
      | .error e => .error e
    | .error e => .error e
  | .error e => .error e

/-- A read-modify-write that writes no flag of its own: RR, RL, SWAP, CLR [m].i, SET [m].i. -/
def memUpdate (g : Byte → Byte) (m : Byte) (s : State) : Host.Outcome State Fault Refusal :=
  outcome <| match resolve m (fetched s) with
  | .ok l =>
    match readLoc l (fetched s) with
    | .ok (v, s1) => storeLoc l (g v) s1
    | .error e => .error e
  | .error e => .error e

/-- A write without a read: MOV [m],A, CLR [m], SET [m]. -/
def memStore (v : Byte) (m : Byte) (s : State) : Host.Outcome State Fault Refusal :=
  outcome (memWrite m v (fetched s))

/-- The taken skip: the next instruction is passed over and a dummy cycle spent (R230). -/
def skipIf (b : Bool) (s : State) : State :=
  if b then { s with pc := s.pc + 1, cycles := s.cycles + 1 } else s

/-- A test of [m] that writes nothing: SZ [m], SZ [m].i, SNZ [m].i. -/
def testSkip (p : Byte → Bool) (m : Byte) (s : State) : Host.Outcome State Fault Refusal :=
  outcome <| match memRead m (fetched s) with
  | .ok (v, s1) => .ok (skipIf (p v) s1)
  | .error e => .error e

/-- The result to ACC, skip if it is 0: SZA, SIZA, SDZA. -/
def accSkip (g : Byte → Byte) (m : Byte) (s : State) : Host.Outcome State Fault Refusal :=
  outcome <| match memRead m (fetched s) with
  | .ok (v, s1) => .ok (skipIf (decide (g v = 0)) { s1 with acc := g v })
  | .error e => .error e

/-- The result to [m], skip if it is 0: SIZ, SDZ. Writing PCL and skipping together is refused (R26). -/
def stepSkip (g : Byte → Byte) (m : Byte) (s : State) : Host.Outcome State Fault Refusal :=
  outcome <| match resolve m (fetched s) with
  | .ok l =>
    match readLoc l (fetched s) with
    | .ok (v, s1) =>
      if l = Loc.pcl ∧ g v = 0 then .error (.refused .pclSkip)
      else
        match storeLoc l (g v) s1 with
        | .ok s2 => .ok (skipIf (decide (g v = 0)) s2)
        | .error e => .error e
    | .error e => .error e
  | .error e => .error e

/-- A table read from program address `a`, computed by the caller from the old TBLP (R260): the low byte to
[m] by the ordinary write rule, the high bits to TBLH (R100). Two cycles; with destination PCL at least
two, how many is a free value (R420, log 9). -/
def tableRead (a : PAddr) (m : Byte) (s : State) : Host.Outcome State Fault Refusal :=
  outcome <| match resolve m (fetched s) with
  | .ok l =>
    let w := tableWord a s
    match writeLoc l (w.extractLsb' 0 8) (fetched s) with
    | .ok s1 =>
      let s2 := { s1 with tblh := w.extractLsb' 8 7, cycles := s1.cycles + 1 }
      .ok (if l = Loc.pcl then { s2 with cycles := s2.cycles + Config.drawCycles s2.draws, draws := s2.draws + 1 }
        else s2)
    | .error e => .error e
  | .error e => .error e

end Sys2Proof.Machine
end

