-- ==== Sys2Proof/Machine/Arith.lean ====
section
/-! DEFINITION. The arithmetic instructions (40_arithmetic.md, R150 to R164). -/

namespace Sys2Proof.Machine

/-- ADD A,[m] (R151). -/
def execAddA (m : Byte) (s : State) := accFromMem aluAdd m s
/-- ADDM A,[m] (R152). -/
def execAddM (m : Byte) (s : State) := memFromMem aluAdd m s
/-- ADD A,x (R153). -/
def execAddX (x : Byte) (s : State) := accFromImm aluAdd x s
/-- ADC A,[m] (R154). -/
def execAdcA (m : Byte) (s : State) := accFromMem aluAdc m s
/-- ADCM A,[m] (R155). -/
def execAdcM (m : Byte) (s : State) := memFromMem aluAdc m s
/-- SUB A,x (R156). -/
def execSubX (x : Byte) (s : State) := accFromImm aluSub x s
/-- SUB A,[m] (R157). -/
def execSubA (m : Byte) (s : State) := accFromMem aluSub m s
/-- SUBM A,[m] (R158). -/
def execSubM (m : Byte) (s : State) := memFromMem aluSub m s
/-- SBC A,[m] (R159). -/
def execSbcA (m : Byte) (s : State) := accFromMem aluSbc m s
/-- SBCM A,[m] (R160). -/
def execSbcM (m : Byte) (s : State) := memFromMem aluSbc m s

/-- DAA [m] (R161): ACC and the flags are read, [m] is written, C alone of the flags. -/
def execDaa (m : Byte) (s : State) : Host.Outcome State Fault Refusal :=
  outcome <| match flagDest m (fetched s) with
  | .ok l =>
    match daaAdjust s.acc s.flags with
    | some (r, c) =>
      match storeLoc l r (fetched s) with
      | .ok s1 => .ok { s1 with flags := { s.flags with c := c } }
      | .error e => .error e
    | none => .error (.refused .daaCorner)
  | .error e => .error e

end Sys2Proof.Machine
end

