-- ==== Sys2Proof/Machine/BitOp.lean ====
section
/-! DEFINITION. The bit operation instructions (45_bitop.md, R225 to R227). -/

namespace Sys2Proof.Machine

/-- CLR [m].i (R226). -/
def execClrBit (m : Byte) (i : BitVec 3) (s : State) := memUpdate (clearBit i) m s
/-- SET [m].i (R227). -/
def execSetBit (m : Byte) (i : BitVec 3) (s : State) := memUpdate (setBit i) m s

end Sys2Proof.Machine
end

