-- ==== Sys2Proof/Machine/Branch.lean ====
section
/-! DEFINITION. Jumps, skips, call and returns (46_branch.md, R230 to R246). -/

namespace Sys2Proof.Machine

/-- JMP addr (R231): two cycles. -/
def execJmp (addr : PAddr) (s : State) : Host.Outcome State Fault Refusal :=
  .next { (fetched s).dummyCycle with pc := addr }

/-- SZ [m] (R232). -/
def execSz (m : Byte) (s : State) := testSkip (fun v => decide (v = 0)) m s
/-- SZA [m] (R233). -/
def execSzA (m : Byte) (s : State) := accSkip id m s
/-- SZ [m].i (R234). -/
def execSzBit (m : Byte) (i : BitVec 3) (s : State) := testSkip (fun v => !v.getLsbD i.toNat) m s
/-- SNZ [m].i (R235). -/
def execSnzBit (m : Byte) (i : BitVec 3) (s : State) := testSkip (fun v => v.getLsbD i.toNat) m s
/-- SIZ [m] (R236). -/
def execSiz (m : Byte) (s : State) := stepSkip (fun v => v + 1) m s
/-- SDZ [m] (R237). -/
def execSdz (m : Byte) (s : State) := stepSkip (fun v => v - 1) m s
/-- SIZA [m] (R238). -/
def execSizA (m : Byte) (s : State) := accSkip (fun v => v + 1) m s
/-- SDZA [m] (R239). -/
def execSdzA (m : Byte) (s : State) := accSkip (fun v => v - 1) m s

/-- CALL addr (R240): pushes the address of the next instruction; two cycles. -/
def execCall (addr : PAddr) (s : State) : Host.Outcome State Fault Refusal :=
  .next { pushPc (fetched s).pc (fetched s).dummyCycle with pc := addr }

/-- RET (R241): two cycles; EMI unchanged. -/
def execRet (s : State) : Host.Outcome State Fault Refusal :=
  outcome (popPc (fetched s).dummyCycle)

/-- RET A,x (R242). -/
def execRetX (x : Byte) (s : State) : Host.Outcome State Fault Refusal :=
  outcome <| match popPc (fetched s).dummyCycle with
  | .ok s1 => .ok { s1 with acc := x }
  | .error e => .error e

/-- RETI (R243). -/
def execReti (s : State) : Host.Outcome State Fault Refusal :=
  outcome (returnFromInterrupt (fetched s).dummyCycle)

end Sys2Proof.Machine
end

