-- ==== Sys2Proof/Machine/DataMove.lean ====
section
/-! DEFINITION. The data move instructions (44_datamove.md, R215 to R218). -/

namespace Sys2Proof.Machine

/-- MOV A,[m] (R216): no flag on this device. -/
def execMovA (m : Byte) (s : State) := accFromMem (aluPlain id) m s
/-- MOV [m],A (R217). -/
def execMovM (m : Byte) (s : State) := memStore s.acc m s
/-- MOV A,x (R218). -/
def execMovX (x : Byte) (s : State) := accFromImm (aluPlain id) x s

end Sys2Proof.Machine
end

