-- ==== Sys2Proof/Machine/IncDec.lean ====
section
/-! DEFINITION. The increment and decrement instructions (42_incdec.md, R190 to R194). -/

namespace Sys2Proof.Machine

/-- INCA [m] (R191). -/
def execIncA (m : Byte) (s : State) := accFromMem aluInc m s
/-- INC [m] (R192). -/
def execInc (m : Byte) (s : State) := memFromMem aluInc m s
/-- DECA [m] (R193). -/
def execDecA (m : Byte) (s : State) := accFromMem aluDec m s
/-- DEC [m] (R194). -/
def execDec (m : Byte) (s : State) := memFromMem aluDec m s

end Sys2Proof.Machine
end

