-- ==== Sys2Proof/Machine/Logic.lean ====
section
/-! DEFINITION. The logic instructions (41_logic.md, R170 to R181). -/

namespace Sys2Proof.Machine

/-- AND A,[m] (R171). -/
def execAndA (m : Byte) (s : State) := accFromMem aluAnd m s
/-- OR A,[m] (R172). -/
def execOrA (m : Byte) (s : State) := accFromMem aluOr m s
/-- XOR A,[m] (R173). -/
def execXorA (m : Byte) (s : State) := accFromMem aluXor m s
/-- ANDM A,[m] (R174). -/
def execAndM (m : Byte) (s : State) := memFromMem aluAnd m s
/-- ORM A,[m] (R175). -/
def execOrM (m : Byte) (s : State) := memFromMem aluOr m s
/-- XORM A,[m] (R176). -/
def execXorM (m : Byte) (s : State) := memFromMem aluXor m s
/-- AND A,x (R177). -/
def execAndX (x : Byte) (s : State) := accFromImm aluAnd x s
/-- OR A,x (R178). -/
def execOrX (x : Byte) (s : State) := accFromImm aluOr x s
/-- XOR A,x (R179). -/
def execXorX (x : Byte) (s : State) := accFromImm aluXor x s
/-- CPL [m] (R180). -/
def execCpl (m : Byte) (s : State) := memFromMem aluCpl m s
/-- CPLA [m] (R181). -/
def execCplA (m : Byte) (s : State) := accFromMem aluCpl m s

end Sys2Proof.Machine
end

