-- ==== Sys2Proof/Machine/Misc.lean ====
section
/-! DEFINITION. The miscellaneous instructions (48_misc.md, R270 to R278). -/

namespace Sys2Proof.Machine

/-- NOP (R270). -/
def execNop (s : State) : Host.Outcome State Fault Refusal := .next (fetched s)
/-- CLR [m] (R271): the location is not read. -/
def execClrAll (m : Byte) (s : State) := memStore 0x00 m s
/-- SET [m] (R272): the location is not read. -/
def execSetAll (m : Byte) (s : State) := memStore 0xFF m s

/-- The clearing of the watchdog by an instruction: `WDT_CNT <- 0; PD <- 0; TO <- 0` (R273). R353 makes no
claim about the first time base and RTC period after it, nor the spec about the buzzer: their
positions are free values (log 13). -/
def clearWdt (s : State) : State :=
  { s with
    wdtCnt := 0
    pdf := false
    tof := false
    tbCnt := Config.drawPhase s.draws
    rtcCnt := Config.drawPhase (s.draws + 1)
    bzCnt := Config.drawBuzzer (s.draws + 2)
    draws := s.draws + 3 }

/-- CLR WDT (R273): acts only with the WDT enabled and option 4 at one time. -/
def execClrWdt (s : State) : Host.Outcome State Fault Refusal :=
  let s1 := fetched s
  if s1.opt.wdtEn = true ∧ s1.opt.clrWdtTimes = .one then .next (clearWdt s1) else .next s1

/-- CLR WDT1 (R274): acts only with the WDT enabled and option 4 at two times. -/
def execClrWdt1 (s : State) : Host.Outcome State Fault Refusal :=
  let s1 := fetched s
  if s1.opt.wdtEn = true ∧ s1.opt.clrWdtTimes = .two then
    if s1.wdt2Done then .next { clearWdt s1 with wdt1Done := false, wdt2Done := false }
    else .next { s1 with wdt1Done := true }
  else .next s1

/-- CLR WDT2 (R275): CLR WDT1 with the roles exchanged. -/
def execClrWdt2 (s : State) : Host.Outcome State Fault Refusal :=
  let s1 := fetched s
  if s1.opt.wdtEn = true ∧ s1.opt.clrWdtTimes = .two then
    if s1.wdt1Done then .next { clearWdt s1 with wdt1Done := false, wdt2Done := false }
    else .next { s1 with wdt2Done := true }
  else .next s1

/-- SWAP [m] (R276). -/
def execSwap (m : Byte) (s : State) := memUpdate swapNibbles m s
/-- SWAPA [m] (R277). -/
def execSwapA (m : Byte) (s : State) := accFromMem (aluPlain swapNibbles) m s

/-- HALT (R278): PD set, TO cleared, the watchdog and the prescaler cleared, the core stopped. The periods of
the time base and RTC are measured from here (R353). -/
def execHalt (s : State) : Host.Outcome State Fault Refusal :=
  .next { fetched s with
    pdf := true
    tof := false
    wdtCnt := 0
    tbCnt := 0
    rtcCnt := 0
    bzCnt := 0
    halted := true }

end Sys2Proof.Machine
end

