-- ==== Sys2Proof/Machine/Rotate.lean ====
section
/-! DEFINITION. The rotate instructions (43_rotate.md, R200 to R208). -/

namespace Sys2Proof.Machine

/-- RRA [m] (R201). -/
def execRrA (m : Byte) (s : State) := accFromMem (aluPlain rotateRight) m s
/-- RR [m] (R202). -/
def execRr (m : Byte) (s : State) := memUpdate rotateRight m s
/-- RRCA [m] (R203). -/
def execRrcA (m : Byte) (s : State) := accFromMem aluRrc m s
/-- RRC [m] (R204). -/
def execRrc (m : Byte) (s : State) := memFromMem aluRrc m s
/-- RLA [m] (R205). -/
def execRlA (m : Byte) (s : State) := accFromMem (aluPlain rotateLeft) m s
/-- RL [m] (R206). -/
def execRl (m : Byte) (s : State) := memUpdate rotateLeft m s
/-- RLCA [m] (R207). -/
def execRlcA (m : Byte) (s : State) := accFromMem aluRlc m s
/-- RLC [m] (R208). -/
def execRlc (m : Byte) (s : State) := memFromMem aluRlc m s

end Sys2Proof.Machine
end

