-- ==== Sys2Proof/Machine/TableRead.lean ====
section
/-! DEFINITION. The table read instructions (47_tableread.md, R260 to R262). -/

namespace Sys2Proof.Machine

/-- TABRDC [m] (R261): page bits of the hardware PC during execution, `(pc + 1)[11:8]`. -/
def execTabrdc (m : Byte) (s : State) :=
  tableRead ((fetched s).pc.extractLsb' 8 4 ++ s.tblp) m s

/-- TABRDL [m] (R262): the last page, F00H..FFFH. -/
def execTabrdl (m : Byte) (s : State) := tableRead (0xF#4 ++ s.tblp) m s

end Sys2Proof.Machine
end

