-- ==== Sys2Proof/Machine/Dispatch.lean ====
section
/-! DEFINITION. The meaning of every instruction: one arm per constructor of Instr, in the order of rule R123. -/

namespace Sys2Proof.Machine

def exec (i : Instr) (s : State) : Host.Outcome State Fault Refusal :=
  match i with
  | .addA m => Sys2Proof.Machine.execAddA m s
  | .addM m => Sys2Proof.Machine.execAddM m s
  | .addX x => Sys2Proof.Machine.execAddX x s
  | .adcA m => Sys2Proof.Machine.execAdcA m s
  | .adcM m => Sys2Proof.Machine.execAdcM m s
  | .subX x => Sys2Proof.Machine.execSubX x s
  | .subA m => Sys2Proof.Machine.execSubA m s
  | .subM m => Sys2Proof.Machine.execSubM m s
  | .sbcA m => Sys2Proof.Machine.execSbcA m s
  | .sbcM m => Sys2Proof.Machine.execSbcM m s
  | .daa m => Sys2Proof.Machine.execDaa m s
  | .andA m => Sys2Proof.Machine.execAndA m s
  | .orA m => Sys2Proof.Machine.execOrA m s
  | .xorA m => Sys2Proof.Machine.execXorA m s
  | .andM m => Sys2Proof.Machine.execAndM m s
  | .orM m => Sys2Proof.Machine.execOrM m s
  | .xorM m => Sys2Proof.Machine.execXorM m s
  | .andX x => Sys2Proof.Machine.execAndX x s
  | .orX x => Sys2Proof.Machine.execOrX x s
  | .xorX x => Sys2Proof.Machine.execXorX x s
  | .cpl m => Sys2Proof.Machine.execCpl m s
  | .cplA m => Sys2Proof.Machine.execCplA m s
  | .incA m => Sys2Proof.Machine.execIncA m s
  | .inc m => Sys2Proof.Machine.execInc m s
  | .decA m => Sys2Proof.Machine.execDecA m s
  | .dec m => Sys2Proof.Machine.execDec m s
  | .rrA m => Sys2Proof.Machine.execRrA m s
  | .rr m => Sys2Proof.Machine.execRr m s
  | .rrcA m => Sys2Proof.Machine.execRrcA m s
  | .rrc m => Sys2Proof.Machine.execRrc m s
  | .rlA m => Sys2Proof.Machine.execRlA m s
  | .rl m => Sys2Proof.Machine.execRl m s
  | .rlcA m => Sys2Proof.Machine.execRlcA m s
  | .rlc m => Sys2Proof.Machine.execRlc m s
  | .movA m => Sys2Proof.Machine.execMovA m s
  | .movM m => Sys2Proof.Machine.execMovM m s
  | .movX x => Sys2Proof.Machine.execMovX x s
  | .clrBit m k => Sys2Proof.Machine.execClrBit m k s
  | .setBit m k => Sys2Proof.Machine.execSetBit m k s
  | .jmp addr => Sys2Proof.Machine.execJmp addr s
  | .sz m => Sys2Proof.Machine.execSz m s
  | .szA m => Sys2Proof.Machine.execSzA m s
  | .szBit m k => Sys2Proof.Machine.execSzBit m k s
  | .snzBit m k => Sys2Proof.Machine.execSnzBit m k s
  | .siz m => Sys2Proof.Machine.execSiz m s
  | .sdz m => Sys2Proof.Machine.execSdz m s
  | .sizA m => Sys2Proof.Machine.execSizA m s
  | .sdzA m => Sys2Proof.Machine.execSdzA m s
  | .call addr => Sys2Proof.Machine.execCall addr s
  | .ret => Sys2Proof.Machine.execRet s
  | .retX x => Sys2Proof.Machine.execRetX x s
  | .reti => Sys2Proof.Machine.execReti s
  | .tabrdc m => Sys2Proof.Machine.execTabrdc m s
  | .tabrdl m => Sys2Proof.Machine.execTabrdl m s
  | .nop => Sys2Proof.Machine.execNop s
  | .clrAll m => Sys2Proof.Machine.execClrAll m s
  | .setAll m => Sys2Proof.Machine.execSetAll m s
  | .clrWdt => Sys2Proof.Machine.execClrWdt s
  | .clrWdt1 => Sys2Proof.Machine.execClrWdt1 s
  | .clrWdt2 => Sys2Proof.Machine.execClrWdt2 s
  | .swap m => Sys2Proof.Machine.execSwap m s
  | .swapA m => Sys2Proof.Machine.execSwapA m s
  | .halt => Sys2Proof.Machine.execHalt s

end Sys2Proof.Machine
end

