-- ==== Sys2Proof/Machine/Reset.lean ====
section
/-! DEFINITION. The resets (10_state.md R65 to R68, 70_reset_and_hazards.md R400 to R407). The level of every
pin is held in State, so the previous levels after a reset are the current ones and no edge is
pending (R401, D28). -/

namespace Sys2Proof.Machine

/-- What every chip reset does (R401), TO and PD apart. ACC, the pointers, C, AC, Z, OV, the timers' counters
and preloads, RAM and LCD memory stay (columns 2 to 4 of R65). PFD_FF, which R68 calls unknown and R401 names
neither as set nor as unchanged, takes a free value (log 31). -/
def chipReset (s : State) : State :=
  { s with
    pc := 0
    stk := []
    halted := false
    t0 := Timer.afterReset s.t0.cnt s.t0.pre
    t1 := Timer.afterReset s.t1.cnt s.t1.pre
    bp := false
    emi := false
    en := SourceBits.none
    req := SourceBits.none
    rt := 7
    lvdc := false
    qosc := false
    paLatch := 0xFF
    pcLatch := 0xF
    wdtCnt := 0
    tbCnt := 0
    rtcCnt := 0
    bzCnt := 0
    wdt1Done := false
    wdt2Done := false
    tPhase := 0
    pfdFF := Config.drawPfd s.draws
    draws := s.draws + 1 }

/-- The warm reset: WDT time-out during HALT (R324, R406). Only PC and SP are reset; TO is set and PD stays. -/
def warmReset (s : State) : State :=
  { s with pc := 0, stk := [], tof := true, halted := false }

/-- WDT time-out (R347): in HALT the warm reset, else a chip reset that sets TO and leaves PD (R405). -/
def wdtTimeOut (s : State) : State :=
  if s.halted then warmReset s else { chipReset s with tof := true }

/-- A low pulse on RES (R402): during HALT TO becomes 0 and PD 1, else both stay (R66). -/
def resReset (s : State) : State :=
  if s.halted then { chipReset s with tof := false, pdf := true } else chipReset s

/-- The registers a power-on leaves unknown take the values the event carries; RAM and LCD memory hold no
value (R65 column 1, R68, R408). -/
def loseState (x : Unknowns) (s : State) : State :=
  { chipReset s with
    acc := x.acc
    mp0 := x.mp0
    mp1 := x.mp1
    tblp := x.tblp
    tblh := x.tblh
    flags := x.flags
    t0 := Timer.afterReset x.t0Cnt x.t0Pre
    t1 := Timer.afterReset x.t1Cnt x.t1Pre
    pfdFF := x.pfdFF
    ram := []
    lcd := [] }

/-- Power-on (R403): TO = 0, PD = 0. -/
def powerOn (x : Unknowns) (s : State) : State :=
  { loseState x s with tof := false, pdf := false }

/-- Low voltage reset (R371, R407): as power-on with TO and PD unknown as well, if option 19 enables it. -/
def lowVoltageReset (x : Unknowns) (tof pdf : Bool) (s : State) : State :=
  if s.lvrEnabled then { loseState x s with tof := tof, pdf := pdf } else s

end Sys2Proof.Machine
end

