-- ==== Sys2Proof/Machine/Units.lean ====
section
/-! DEFINITION. The units beside the core: request flags and wake-up (R303, R323), timer/event counters (R330 to
R345), watchdog, time base and RTC (R346 to R353), pin edges (R304, R322, R335, R338). -/

namespace Sys2Proof.Machine

/-- A hardware event sets a request flag (R303). A flag going from 0 to 1 ends HALT; one already 1 does
not (R323). -/
def raise (src : Source) (s : State) : State :=
  if s.req.get src then s
  else { s with req := s.req.put true src, halted := false }

/-- One count event (R333): ignored while TON = 0, lost where a read blocked the clock (R339), else the
counter moves. The second component says that it overflowed and was reloaded. -/
def Timer.countEvent (t : Timer) : Timer × Bool :=
  if !t.ton then (t, false)
  else if t.blk then ({ t with blk := false }, false)
  else if t.cnt = 0xFF then ({ t with cnt := t.pre }, true)
  else ({ t with cnt := t.cnt + 1 }, false)

/-- The timer counts cycles of its internal clock: timer mode (R334), or pulse width measurement in phase
COUNT (R338). -/
def Timer.countsInternal (t : Timer) : Bool := t.tn1 && (!t.tn0 || decide (t.phase = .count))

/-- The PFD flip-flop toggles at an overflow of the timer option 21 selects (R344). -/
def togglePfd (src : Config.PfdSrc) (s : State) : State :=
  if s.opt.pfdSrc = src then { s with pfdFF := !s.pfdFF } else s

/-- One count event of timer 1 (R333). -/
def countTimer1 (s : State) : State :=
  let s1 := { s with t1 := s.t1.countEvent.1 }
  if s.t1.countEvent.2 then raise .t1 (togglePfd .pfd1 s1) else s1

/-- One cycle of the internal clock of timer 1. -/
def clockTimer1 (s : State) : State := if s.t1.countsInternal then countTimer1 s else s

/-- Timer 1 takes its internal clock from the option clock source `c` (R331: TN2 = 0). -/
def State.timer1Takes (s : State) (c : Config.T1Clk) : Bool := !s.t1.tn2 && decide (s.opt.t1Clk = c)

/-- One cycle of the option clock source `c` at timer 1. -/
def tickTimer1 (c : Config.T1Clk) (s : State) : State := if s.timer1Takes c then clockTimer1 s else s

/-- One count event of timer 0 (R333). Its overflow is a cycle of timer 1's internal clock where timer 1
selects it (R345). -/
def countTimer0 (s : State) : State :=
  let s1 := { s with t0 := s.t0.countEvent.1 }
  if s.t0.countEvent.2 then
    let s2 := raise .t0 (togglePfd .pfd0 s1)
    tickTimer1 .tmr0Ovf s2
  else s1

/-- One cycle of the internal clock of timer 0. -/
def clockTimer0 (s : State) : State := if s.t0.countsInternal then countTimer0 s else s

/-- Time base time-out (R351): TBF, and a cycle of timer 1's clock where timer 1 selects it. -/
def timeBaseOut (s : State) : State :=
  let s1 := raise .tb s
  tickTimer1 .tbOvf s1

/-- RTC time-out (R352): RTF, and a cycle of timer 0's clock where TN2 of TMR0C is 0 (R331). -/
def rtcOut (s : State) : State :=
  let s1 := raise .rtc s
  if s1.t0.tn2 then s1 else clockTimer0 s1

/-- The time base chain: one time-out every 2^tbDiv cycles of fs (R351). -/
def tickTimeBase (s : State) : State :=
  if 2 ^ s.opt.tbDiv ≤ s.tbCnt.toNat + 1 then timeBaseOut { s with tbCnt := 0 }
  else { s with tbCnt := s.tbCnt + 1 }

/-- The RTC chain: one time-out every 2^(8 + RT) cycles of fs (R352). -/
def tickRtc (s : State) : State :=
  if 2 ^ (8 + s.rt.toNat) ≤ s.rtcCnt.toNat + 1 then rtcOut { s with rtcCnt := 0 }
  else { s with rtcCnt := s.rtcCnt + 1 }

/-- The buzzer divider (R346). -/
def tickBuzzer (s : State) : State := { s with bzCnt := s.bzCnt + 1 }

/-- The watchdog: with option 3 on, a time-out at the 65536th cycle of fs since the last clear (R346, R350).
The argument says whether the cycle began in HALT (log 15). The warm reset "leaves the others at their
original state": the counter has passed through all its 65536 values and starts again at 0. -/
def tickWatchdog (inHalt : Bool) (s : State) : State :=
  if !s.opt.wdtEn then s
  else if s.wdtCnt.toNat + 1 = 65536 then wdtTimeOut { s with wdtCnt := 0, halted := inHalt }
  else { s with wdtCnt := s.wdtCnt + 1 }

/-- One cycle of fs (R346): time base, RTC, buzzer, then watchdog (log 15). The argument says whether the clock
cycle it is part of began in HALT. -/
def fsTick (inHalt : Bool) (s : State) : State :=
  tickWatchdog inHalt (tickBuzzer (tickRtc (tickTimeBase s)))

/-- Timer 0 takes its internal clock from the system clock `c` of option 10 (R331: TN2 = 1). -/
def State.timer0Takes (s : State) (c : Config.T0Clk) : Bool := s.t0.tn2 && decide (s.opt.t0Clk = c)

/-- One cycle of the system clock `c` at timer 0. -/
def tickTimer0 (c : Config.T0Clk) (s : State) : State := if s.timer0Takes c then clockTimer0 s else s

/-- One cycle of system clock/4 at timer 1 (R331: TN2 = 1). -/
def tickTimer1Div4 (s : State) : State := if s.t1.tn2 then clockTimer1 s else s

/-- One cycle of system clock/4, the instruction clock: timer 0 and timer 1 where they select it (R331), and
fs where option 2 does (R346). -/
def div4Tick (inHalt : Bool) (s : State) : State :=
  let s1 := tickTimer1Div4 (tickTimer0 .sysDiv4 s)
  if s.opt.wdtClk = .sysDiv4 then fsTick inHalt s1 else s1

/-- The system clock runs: always but in HALT, and there too with the 32768Hz crystal (R320, R327). -/
def State.sysClockRuns (s : State) : Bool := !s.halted || decide (s.opt.osc = .crystal32768)

/-- One cycle of the system clock: the timers that select it, and at every fourth a cycle of system
clock/4 (R331, log 26). -/
def sysTick (s : State) : State :=
  if !s.sysClockRuns then s
  else
    let s1 := tickTimer1 .sys (tickTimer0 .sys { s with tPhase := s.tPhase + 1 })
    if s.tPhase = 3 then div4Tick s.halted s1 else s1

/-- fs runs: it has its own oscillator, or the system clock it is divided from runs (R327, R348). -/
def State.fsRuns (s : State) : Bool := !decide (s.opt.wdtClk = .sysDiv4) || s.sysClockRuns

/-- One cycle of its clock at one unit alone (R7): a timer that takes the system clock or a division of it
(R331), or a chain of fs (R346). -/
def unitTick (u : ClockedUnit) (s : State) : State :=
  match u with
  | .timer0 => if s.sysClockRuns && s.t0.tn2 then clockTimer0 s else s
  | .timer1 => if s.sysClockRuns && (s.t1.tn2 || decide (s.opt.t1Clk = .sys)) then clockTimer1 s else s
  | .timeBase => if s.fsRuns then tickTimeBase s else s
  | .rtc => if s.fsRuns then tickRtc s else s
  | .buzzer => if s.fsRuns then tickBuzzer s else s
  | .watchdog => if s.fsRuns then tickWatchdog s.halted s else s

/-- An edge of a timer's pin (R335, R338): the timer after it, and whether it is a count event. Event count
mode counts rising edges with TE = 0 and falling ones with TE = 1; pulse width measurement starts on a
rising edge with TE = 1, on a falling one with TE = 0, and ends on the opposite edge. Both edges are taken by
TE as it is when they come: where TE is rewritten during COUNT the spec does not say which one ends the
measurement, DESIGN CHOICE (log 17). -/
def Timer.pinEdge (t : Timer) (rising : Bool) : Timer × Bool :=
  if !t.ton || !t.tn0 then (t, false)
  else if !t.tn1 then (t, rising != t.te)
  else if t.phase = .wait then (if rising = t.te then ({ t with phase := .count }, false) else (t, false))
  else if t.phase = .count then
    (if rising = t.te then (t, false) else ({ t with ton := false, phase := .done }, false))
  else (t, false)

/-- The TMR0 pin goes from level `old` to level `new`. -/
def timer0Pin (old new : Bool) (s : State) : State :=
  if old = new then s
  else
    let e := s.t0.pinEdge new
    if e.2 then countTimer0 { s with t0 := e.1 } else { s with t0 := e.1 }

/-- The TMR1 pin goes from level `old` to level `new`. -/
def timer1Pin (old new : Bool) (s : State) : State :=
  if old = new then s
  else
    let e := s.t1.pinEdge new
    if e.2 then countTimer1 { s with t1 := e.1 } else { s with t1 := e.1 }

/-- A high to low transition of an external interrupt pin sets its request flag (R304). -/
def externalPin (src : Source) (old new : Bool) (s : State) : State :=
  if old && !new then raise src s else s

/-- The pad of some bit of PA whose option 7 is on goes from high to low between the two states (R322, R366): an
input, or a buzzer or PFD output. A pad of no given level, floating or the "U" of R344, has the level `paLevel` gives
it, which the pads event carries: DESIGN CHOICE (log 32). -/
def paFalls (s s' : State) : Bool :=
  (List.range 8).any fun i =>
    s.opt.paWake.getLsbD i && s.paPad s.paLevel i && !s'.paPad s'.paLevel i

/-- Port A wake-up (R322): the state `s'` that an event leads to from `s`, with HALT ended where a wake-up pad falls.
The pads are compared once for the whole event (log 18). -/
def wakeByPads (s s' : State) : State := if paFalls s s' then { s' with halted := false } else s'

/-- New pad levels from outside: the pins are driven anew, then the edges they make are seen, INT0, INT1,
TMR0, TMR1 (the pads PB0 to PB3, R363, log 16). -/
def drivePads (paDriven paLevel pb : Byte) (pcDriven pcLevel : BitVec 4) (s : State) : State :=
  let s1 := { s with paDriven := paDriven, paLevel := paLevel, pb := pb, pcDriven := pcDriven, pcLevel := pcLevel }
  let s2 := externalPin .int0 (s.pb.getLsbD 0) (pb.getLsbD 0) s1
  let s3 := externalPin .int1 (s.pb.getLsbD 1) (pb.getLsbD 1) s2
  let s4 := timer0Pin (s.pb.getLsbD 2) (pb.getLsbD 2) s3
  timer1Pin (s.pb.getLsbD 3) (pb.getLsbD 3) s4

end Sys2Proof.Machine
end

