-- ==== Sys2Proof/Machine/Run.lean ====
section
/-! DEFINITION. How a step is chosen: one instruction, an interrupt entry, an idle step of HALT, or an event of
the script (R7, R310, R311, R320, R414). -/

namespace Sys2Proof.Machine

/-- The state in which an instruction starts: a count event that a read could have blocked has come or not
come by now (R339, log 12). -/
def settled (s : State) : State :=
  { s with t0 := { s.t0 with blk := false }, t1 := { s.t1 with blk := false } }

/-- With TIMING cycle-exact, the four system clocks of each instruction cycle the instruction took follow
it (R420, D15, log 25). -/
def clocked (before : Nat) (s : State) : State :=
  match s.opt.timing with
  | .free => s
  | .cycleExact => { s with env := List.replicate (4 * (s.cycles - before)) .sysClock ++ s.env }

/-- `clocked` on an outcome. -/
def clockedOutcome (before : Nat) :
    Host.Outcome State Fault Refusal → Host.Outcome State Fault Refusal
  | .next s => .next (clocked before s)
  | .fault f => .fault f
  | .refused r => .refused r

/-- Fetch, decode and run one instruction (R99, R127), its word read by the encoding `enc` (D1). A word that
spells no instruction is refused (R128). -/
def runInstr (enc : Encoding) (s : State) : Host.Outcome State Fault Refusal :=
  match fetchWord s with
  | none => .fault (.unprogrammedWord s.pc)
  | some w =>
    match enc w with
    | .ok i => clockedOutcome s.cycles (exec i (settled s))
    | .error _ => .refused (.unassignedWord w)

/-- A step of the core at an instruction boundary: nothing in HALT (R320, log 19); else the interrupt R310
acknowledges; else one instruction. -/
def coreStep (enc : Encoding) (s : State) : Host.Outcome State Fault Refusal :=
  if s.halted then .next s
  else
    match s.pending with
    | some src => .next (enterInterrupt src s)
    | none => runInstr enc s

/-- An event of the script; `s` is the state with the event taken off. An event of the units or the pins that makes a
wake-up pad of PA fall ends HALT (R322). -/
def eventStep (enc : Encoding) (e : Event) (s : State) : Host.Outcome State Fault Refusal :=
  match e with
  | .run => if s.halted then .next s else runInstr enc s
  | .core => coreStep enc s
  | .sysClock => .next (wakeByPads s (sysTick s))
  | .fsCycle => if s.opt.wdtClk = .sysDiv4 then .next s else .next (wakeByPads s (fsTick s.halted s))
  | .unit u => .next (wakeByPads s (unitTick u s))
  | .pads paDriven paLevel pb pcDriven pcLevel =>
    .next (wakeByPads s (drivePads paDriven paLevel pb pcDriven pcLevel s))
  | .supply low => .next { s with vddLow := low }
  | .res => .next (resReset s)
  | .powerOn x => .next (powerOn x s)
  | .lowVoltage x tof pdf => .next (lowVoltageReset x tof pdf s)

/-- The next step under the encoding `enc`: the first event of the script, or the core where the script is
empty. -/
def nextStep (enc : Encoding) (s : State) : Host.Outcome State Fault Refusal :=
  match s.env with
  | [] => coreStep enc s
  | e :: rest => eventStep enc e { s with env := rest }

/-- An instruction word placed where the next step fetches, and that step made the run of one instruction:
the word stands at the program counter, the core runs, and the script asks for one instruction. -/
def placeWord (s : State) (w : PWord) : State :=
  { s with pm := Memory.write s.pm s.pc.toNat w, halted := false, env := [.run] }

end Sys2Proof.Machine
end

