-- ==== Sys2Proof/Machine/Step.lean ====
section
/-! DEFINITION. The step of the machine, and the word the host places where it fetches. -/

namespace Sys2Proof.Machine

/-- One step (R7, R414): the first event of the script; with an empty script, the core. The encoding is SPEC_ENC, the
default of the parameter ENC (R124, D1). -/
def step : State → Host.Outcome State Fault Refusal := nextStep decode

/-- The state with the instruction word `w` (of which `nbits` bits are given, the others 0) where the next
step fetches (log 24). -/
def State.withFetchWord (s : State) (nbits w : Nat) : State :=
  placeWord s (BitVec.ofNat 15 (w % 2 ^ nbits))

end Sys2Proof.Machine
end

