-- ==== Sys2Proof/Safety.lean ====
section
/-! DEFINITION. The words the statements use: legal states, the end of a run, the flags of a sum and of a difference in
the source's terms, and what an instruction may write. -/

namespace Sys2Proof

/-- The word of format N, M or I: the row's match value with the operand in bits 7..0 (R125). -/
def wordWith (base : Nat) (operand : Byte) : PWord := BitVec.ofNat 15 (base + operand.toNat)

/-- The word of format B: the row's match value, the bit index in bits 10..8, the address in bits 7..0
(R125). -/
def bitWordWith (base : Nat) (i : BitVec 3) (m : Byte) : PWord :=
  BitVec.ofNat 15 (base + 256 * i.toNat + m.toNat)

/-- The word of format J: the row's match value with the address in bits 11..0 (R125). -/
def jumpWordWith (base : Nat) (addr : PAddr) : PWord := BitVec.ofNat 15 (base + addr.toNat)

/-- The operand `[m]` that is the destination of an instruction, for the forms that write data memory
(R33, R35, R93). -/
def Instr.storeOperand : Instr → Option Byte
  | .addM m | .adcM m | .subM m | .sbcM m | .daa m => some m
  | .andM m | .orM m | .xorM m | .cpl m | .inc m | .dec m => some m
  | .rr m | .rrc m | .rl m | .rlc m | .movM m | .clrBit m _ | .setBit m _ => some m
  | .siz m | .sdz m | .tabrdc m | .tabrdl m | .clrAll m | .setAll m | .swap m => some m
  | .addA _ | .addX _ | .adcA _ | .subX _ | .subA _ | .sbcA _ => none
  | .andA _ | .orA _ | .xorA _ | .andX _ | .orX _ | .xorX _ | .cplA _ | .incA _ | .decA _ => none
  | .rrA _ | .rrcA _ | .rlA _ | .rlcA _ | .movA _ | .movX _ | .swapA _ => none
  | .jmp _ | .sz _ | .szA _ | .szBit _ _ | .snzBit _ _ | .sizA _ | .sdzA _ => none
  | .call _ | .ret | .retX _ | .reti | .nop | .clrWdt | .clrWdt1 | .clrWdt2 | .halt => none

/-- The arithmetic and logic flags an instruction writes by its own rule: the four groups of R33. -/
inductive FlagUse where
  | none | z | c | all
deriving DecidableEq, Repr

/-- R33's list. -/
def Instr.flagUse : Instr → FlagUse
  | .addA _ | .addM _ | .addX _ | .adcA _ | .adcM _ | .subX _ | .subA _ | .subM _ | .sbcA _ | .sbcM _ => .all
  | .daa _ | .rrcA _ | .rrc _ | .rlcA _ | .rlc _ => .c
  | .andA _ | .orA _ | .xorA _ | .andM _ | .orM _ | .xorM _ | .andX _ | .orX _ | .xorX _ => .z
  | .cpl _ | .cplA _ | .incA _ | .inc _ | .decA _ | .dec _ => .z
  | .rrA _ | .rr _ | .rlA _ | .rl _ | .movA _ | .movM _ | .movX _ | .clrBit _ _ | .setBit _ _ => .none
  | .jmp _ | .sz _ | .szA _ | .szBit _ _ | .snzBit _ _ | .siz _ | .sdz _ | .sizA _ | .sdzA _ => .none
  | .call _ | .ret | .retX _ | .reti | .tabrdc _ | .tabrdl _ | .nop | .clrAll _ | .setAll _ => .none
  | .clrWdt | .clrWdt1 | .clrWdt2 | .swap _ | .swapA _ | .halt => .none

/-- The instructions whose rule says `ACC <- ...` (R20). -/
def Instr.writesAcc : Instr → Bool
  | .addA _ | .addX _ | .adcA _ | .subX _ | .subA _ | .sbcA _ => true
  | .andA _ | .orA _ | .xorA _ | .andX _ | .orX _ | .xorX _ | .cplA _ | .incA _ | .decA _ => true
  | .rrA _ | .rrcA _ | .rlA _ | .rlcA _ | .movA _ | .movX _ | .swapA _ => true
  | .szA _ | .sizA _ | .sdzA _ | .retX _ => true
  | .addM _ | .adcM _ | .subM _ | .sbcM _ | .daa _ => false
  | .andM _ | .orM _ | .xorM _ | .cpl _ | .inc _ | .dec _ => false
  | .rr _ | .rrc _ | .rl _ | .rlc _ | .movM _ | .clrBit _ _ | .setBit _ _ => false
  | .jmp _ | .sz _ | .szBit _ _ | .snzBit _ _ | .siz _ | .sdz _ => false
  | .call _ | .ret | .reti | .tabrdc _ | .tabrdl _ | .nop | .clrAll _ | .setAll _ => false
  | .clrWdt | .clrWdt1 | .clrWdt2 | .swap _ | .halt => false

/-- CLR WDT, CLR WDT1, CLR WDT2 and HALT: the instructions that can clear the watchdog and write TO and PD
(R33, R36, R349). -/
def Instr.clearsWatchdog (i : Instr) : Bool :=
  decide (i = .clrWdt) || decide (i = .clrWdt1) || decide (i = .clrWdt2) || decide (i = .halt)

/-- The eight instructions that can skip (R230). -/
def Instr.isSkip : Instr → Bool
  | .sz _ | .szA _ | .szBit _ _ | .snzBit _ _ | .siz _ | .sdz _ | .sizA _ | .sdzA _ => true
  | .addA _ | .addX _ | .adcA _ | .subX _ | .subA _ | .sbcA _ => false
  | .andA _ | .orA _ | .xorA _ | .andX _ | .orX _ | .xorX _ | .cplA _ | .incA _ | .decA _ => false
  | .rrA _ | .rrcA _ | .rlA _ | .rlcA _ | .movA _ | .movX _ | .swapA _ => false
  | .addM _ | .adcM _ | .subM _ | .sbcM _ | .daa _ => false
  | .andM _ | .orM _ | .xorM _ | .cpl _ | .inc _ | .dec _ => false
  | .rr _ | .rrc _ | .rl _ | .rlc _ | .movM _ | .clrBit _ _ | .setBit _ _ => false
  | .jmp _ | .call _ | .ret | .retX _ | .reti | .tabrdc _ | .tabrdl _ | .nop | .clrAll _ | .setAll _ => false
  | .clrWdt | .clrWdt1 | .clrWdt2 | .swap _ | .halt => false

/-- TABRDC and TABRDL (R260). -/
def Instr.isTableRead : Instr → Bool
  | .tabrdc _ | .tabrdl _ => true
  | .addA _ | .addX _ | .adcA _ | .subX _ | .subA _ | .sbcA _ => false
  | .andA _ | .orA _ | .xorA _ | .andX _ | .orX _ | .xorX _ | .cplA _ | .incA _ | .decA _ => false
  | .rrA _ | .rrcA _ | .rlA _ | .rlcA _ | .movA _ | .movX _ | .swapA _ => false
  | .addM _ | .adcM _ | .subM _ | .sbcM _ | .daa _ => false
  | .andM _ | .orM _ | .xorM _ | .cpl _ | .inc _ | .dec _ => false
  | .rr _ | .rrc _ | .rl _ | .rlc _ | .movM _ | .clrBit _ _ | .setBit _ _ => false
  | .sz _ | .szA _ | .szBit _ _ | .snzBit _ _ | .siz _ | .sdz _ | .sizA _ | .sdzA _ => false
  | .jmp _ | .call _ | .ret | .retX _ | .reti | .nop | .clrAll _ | .setAll _ => false
  | .clrWdt | .clrWdt1 | .clrWdt2 | .swap _ | .halt => false

/-- RET, RET A,x and RETI (R241 to R243). -/
def Instr.isReturn (i : Instr) : Bool :=
  match i with
  | .ret | .retX _ | .reti => true
  | _ => false

/-- The forms with an operand `[m]`, as functions of `m`: the 43 of shape M and the 4 of shape B (R123). -/
def Instr.memoryForms (i : BitVec 3) : List (Byte → Instr) :=
  [addA, addM, adcA, adcM, subA, subM, sbcA, sbcM, daa,
   andA, orA, xorA, andM, orM, xorM, cpl, cplA, incA, inc, decA, dec,
   rrA, rr, rrcA, rrc, rlA, rl, rlcA, rlc, movA, movM,
   sz, szA, siz, sdz, sizA, sdzA, tabrdc, tabrdl, clrAll, setAll, swap, swapA,
   fun m => clrBit m i, fun m => setBit m i, fun m => szBit m i, fun m => snzBit m i]

namespace Machine

/-- R302's priority numbers, 1 the highest. -/
def Source.priority : Source → Nat
  | .int0 => 1
  | .int1 => 2
  | .t0 => 3
  | .t1 => 4
  | .tb => 5
  | .rtc => 6

/-- No timer is on in the unused mode 00 (R336), and a running measurement is in phase WAIT or COUNT, no
other timer in one (R338). -/
def Timer.legal (t : Timer) : Bool :=
  !(t.ton && !t.tn1 && !t.tn0) &&
    decide ((t.ton && t.tn1 && t.tn0) = (decide (t.phase = .wait) || decide (t.phase = .count)))

/-- The legal states: the three memories in canonical form (R54, R55, R80), at most six return addresses
(R28), both timers legal (R336, R338). -/
def State.legal (s : State) : Bool :=
  s.memWf && decide (s.stk.length ≤ 6) && s.t0.legal && s.t1.legal

/-- The customary end of a run, a JMP to its own address is reached (R430): the core runs, no interrupt is taken in its
place (R310), and the next instruction is that JMP. -/
def State.idles (s : State) : Bool :=
  !s.halted && s.pending.isNone &&
    match fetchWord s with
    | some w => decide (decode w = .ok (.jmp s.pc))
    | none => false

/-- The event resets the chip (R430's "RES event"): RES, power-on, or the low voltage reset where option 19
enables it. -/
def State.resetBy (s : State) : Event → Bool
  | .res | .powerOn _ => true
  | .lowVoltage _ _ _ => s.lvrEnabled
  | .run | .core | .sysClock | .fsCycle | .unit _ | .pads _ _ _ _ _ | .supply _ => false

/-- The sources an event could make request: by the pins (R304, R335), by the clocks that run (R327, R331, R351,
R352), timer 1 also by the cascade (R345). -/
def State.sourcesOf (s : State) : Event → List Source
  | .pads _ _ _ _ _ => [.int0, .int1, .t0, .t1]
  | .sysClock =>
    if s.sysClockRuns then
      if s.opt.wdtClk = .sysDiv4 then [.t0, .t1, .tb, .rtc] else [.t0, .t1]
    else []
  | .fsCycle => if s.opt.wdtClk = .sysDiv4 then [] else [.t0, .t1, .tb, .rtc]
  | .unit .timer0 => if s.sysClockRuns then [.t0, .t1] else []
  | .unit .timer1 => if s.sysClockRuns then [.t1] else []
  | .unit .timeBase => if s.fsRuns then [.tb, .t1] else []
  | .unit .rtc => if s.fsRuns then [.rtc, .t0, .t1] else []
  | .unit .buzzer | .unit .watchdog => []
  | .run | .core | .supply _ | .res | .powerOn _ | .lowVoltage _ _ _ => []

/-- A source is able to set its request flag: the flag is 0 (R323), and a timer is on (R333). -/
def State.ableToSet (s : State) (src : Source) : Bool :=
  !s.req.get src && match src with
    | .t0 => s.t0.ton
    | .t1 => s.t1.ton
    | .int0 | .int1 | .tb | .rtc => true

/-- The other end of a run, a HALT nothing can leave (R430): the watchdog disabled, no wake-up bit of option 7,
and in the script, which is all that is to come (log 6), no reset and no event of a source able to set its
flag. -/
def State.haltedForGood (s : State) : Bool :=
  s.halted && !s.opt.wdtEn && decide (s.opt.paWake = 0) &&
    !(s.env.any fun e => s.resetBy e || (s.sourcesOf e).any s.ableToSet)

/-- The data location an instruction stores to: its destination operand, resolved in the state it runs in
(R84). -/
def storeTarget (i : Instr) (s : State) : Option Loc :=
  match i.storeOperand with
  | none => none
  | some m =>
    match resolve m s with
    | .ok l => some l
    | .error _ => none

/-- The flags of the sum `a + b + cin` in the words of R32 and R164: a carry out of bit 7, a carry out of the
low nibble, a zero result, a signed sum outside -128..127. -/
def Flags.ofSum (a b : Byte) (cin : Bool) : Flags where
  c := decide (256 ≤ a.toNat + b.toNat + cin.toNat)
  ac := decide (16 ≤ a.toNat % 16 + b.toNat % 16 + cin.toNat)
  z := decide ((a.toNat + b.toNat + cin.toNat) % 256 = 0)
  ov := decide (a.toInt + b.toInt + (cin.toNat : Int) < -128 ∨ 127 < a.toInt + b.toInt + (cin.toNat : Int))

/-- The flags of the difference `a - b - (1 - cin)` in the words of R32, R163 and R164: C and AC say that no
borrow took place, from the byte and from the high nibble into the low one. -/
def Flags.ofDifference (a b : Byte) (cin : Bool) : Flags where
  c := decide (b.toNat + (!cin).toNat ≤ a.toNat)
  ac := decide (b.toNat % 16 + (!cin).toNat ≤ a.toNat % 16)
  z := decide (((a.toNat : Int) - b.toNat - (!cin).toNat) % 256 = 0)
  ov := decide (a.toInt - b.toInt - ((!cin).toNat : Int) < -128 ∨
    127 < a.toInt - b.toInt - ((!cin).toNat : Int))

/-- The value with Z set from a result, the other flags kept (R170, R190). -/
def Flags.zeroOf (f : Flags) (r : Byte) : Flags := { f with z := decide (r.toNat = 0) }

/-- A state with the program counter at `pc + n` and `n` cycles spent: n = 1 for the next instruction, n = 2
for a taken skip (R230). -/
def State.goOn (s : State) (n : Nat) : State :=
  { s with pc := s.pc + BitVec.ofNat 12 n, cycles := s.cycles + n }

/-- The registers of R65 that every chip reset sets to a known value (R401): pc, the stack, TMR0C, TMR1C, BP,
INTC0, INTC1, RTCC, the port latches, the watchdog, the dividers and the preclear flags. -/
def State.hasResetValues (s : State) : Prop :=
  s.pc = 0 ∧ s.stk = [] ∧ s.halted = false ∧ s.t0.control = 0x08 ∧ s.t1.control = 0x08 ∧ s.bp = false ∧
  s.intc0 = 0x00 ∧ s.intc1 = 0x00 ∧ s.rtcc = 0x07 ∧ s.paLatch = 0xFF ∧ s.pcLatch = 0xF ∧
  s.wdtCnt = 0 ∧ s.tbCnt = 0 ∧ s.rtcCnt = 0 ∧ s.bzCnt = 0 ∧ s.wdt1Done = false ∧ s.wdt2Done = false ∧
  s.t0.phase = .idle ∧ s.t1.phase = .idle

/-- What no reset but power-on changes, the "u" cells of columns 2 to 4 of R65 (R401): ACC, MP0, MP1, TBLP, TBLH,
both timers' counters and preloads, C, AC, Z, OV, RAM and LCD memory. -/
def State.keepsUnchanged (s t : State) : Prop :=
  t.acc = s.acc ∧ t.mp0 = s.mp0 ∧ t.mp1 = s.mp1 ∧ t.tblp = s.tblp ∧ t.tblh = s.tblh ∧
  t.t0.cnt = s.t0.cnt ∧ t.t0.pre = s.t0.pre ∧ t.t1.cnt = s.t1.cnt ∧ t.t1.pre = s.t1.pre ∧
  t.flags = s.flags ∧ t.ram = s.ram ∧ t.lcd = s.lcd

/-- What a power-on leaves: the reset values, and what it does not set at the values `x` of its event (R65 column 1,
R408, log 20); no RAM byte and no LCD location holds a value (R68). -/
def State.hasPowerOnValues (t : State) (x : Unknowns) : Prop :=
  t.hasResetValues ∧ t.acc = x.acc ∧ t.mp0 = x.mp0 ∧ t.mp1 = x.mp1 ∧ t.tblp = x.tblp ∧ t.tblh = x.tblh ∧
  t.flags = x.flags ∧ t.t0.cnt = x.t0Cnt ∧ t.t0.pre = x.t0Pre ∧ t.t1.cnt = x.t1Cnt ∧ t.t1.pre = x.t1Pre ∧
  t.pfdFF = x.pfdFF ∧ ∀ a, Memory.read t.ram a = none ∧ Memory.read t.lcd a = none

/-- The timer is on and counts the cycles of its internal clock: timer mode (R334), or pulse width measurement
after its start edge (R338). -/
def Timer.takesClocks (t : Timer) : Bool := t.ton && t.tn1 && (!t.tn0 || decide (t.phase = .count))

/-- The pin's change from `old` to `new` is the active edge of a timer in event count mode: low to high with TE = 0, high
to low with TE = 1 (R335). -/
def Timer.activeEdge (t : Timer) (old new : Bool) : Prop :=
  t.tn1 = false ∧ t.tn0 = true ∧ old = t.te ∧ new = !t.te

/-- A pulse width measurement after its pin has gone from `old` to `new`, by the phases of R338: the start edge (low to high
with TE = 1, high to low with TE = 0) ends WAIT, the opposite one ends COUNT and clears TON. A timer that is off or in
another mode stays as it is. -/
def Timer.afterPin (t : Timer) (old new : Bool) : Timer :=
  if t.ton ∧ t.tn1 ∧ t.tn0 ∧ t.phase = .wait ∧ old = !t.te ∧ new = t.te then { t with phase := .count }
  else if t.ton ∧ t.tn1 ∧ t.tn0 ∧ t.phase = .count ∧ old = t.te ∧ new = !t.te then
    { t with ton := false, phase := .done }
  else t

/-- The event is a cycle of fs at the unit `u`, one of the chains of R346: with fs from its own oscillator, at all the
chains (`fsCycle`) or at `u` alone; with fs from system clock/4 (option 2), where the system clock runs (R327, R348), at
every fourth system clock (log 26) or at `u` alone. -/
def State.fsCycleAt (s : State) (u : ClockedUnit) (e : Event) : Prop :=
  (s.opt.wdtClk ≠ .sysDiv4 ∧ (e = .fsCycle ∨ e = .unit u)) ∨
  (s.opt.wdtClk = .sysDiv4 ∧ (s.halted = false ∨ s.opt.osc = .crystal32768) ∧
    ((e = .sysClock ∧ s.tPhase = 3) ∨ e = .unit u))

/-- Neither the time base nor the RTC times out at its next cycle of fs (R351, R352). -/
def State.noTimeOutDue (s : State) : Prop :=
  s.tbCnt.toNat + 1 < 2 ^ s.opt.tbDiv ∧ s.rtcCnt.toNat + 1 < 2 ^ (8 + s.rt.toNat)

/-- `k` count events on a timer (R333): the timer after them and how many of them overflowed. -/
def Timer.countEvents (t : Timer) : Nat → Timer × Nat
  | 0 => (t, 0)
  | k + 1 =>
    let p := Timer.countEvents t k
    (p.1.countEvent.1, p.2 + p.1.countEvent.2.toNat)

/-- `k` steps of the machine, none of which stops. -/
def runNext (s : State) : Nat → Option State
  | 0 => some s
  | k + 1 =>
    match step s with
    | .next t => runNext t k
    | .fault _ => none
    | .refused _ => none

end Machine

end Sys2Proof
end

