-- ==== Sys2Proof/WellFormed.lean ====
section
/-! DEFINITION. The checks on what a machine is given from outside: the option record (R5) and the program
image (R80, R81). An instruction needs no check of its own: its operands have the exact widths of
R122 (Syntax.lean), so `Instr.wf` holds of every instruction. -/

namespace Sys2Proof

/-- The ranges R5 gives for the numeric options: 5 (time base), 6 (buzzer), 13 (LCD common), 16 (LCD
clock). -/
def Config.Options.wf (o : Config.Options) : Bool :=
  (12 ≤ o.tbDiv && o.tbDiv ≤ 15) && (2 ≤ o.bzDiv && o.bzDiv ≤ 9) &&
  (2 ≤ o.lcdCom && o.lcdCom ≤ 4) && (2 ≤ o.lcdClkDiv && o.lcdClkDiv ≤ 8)

/-- A program image: words at rising addresses of 000H..FFFH (R80). -/
def Image.wf : List (Nat × PWord) → Bool
  | [] => true
  | [(a, _)] => a < 4096
  | (a, _) :: (b, w) :: t => a < b && Image.wf ((b, w) :: t)

/-- Every operand of an instruction is in the range of its field (R122, R126). -/
def Instr.wf (_ : Instr) : Bool := true

end Sys2Proof
end

