-- ==== Sys2Proof/Certificates/Slice0/Obligations.lean ====
section
/-! DEFINITION. The statements for the provers. Each formalises what its docstring cites of spec/. -/

/-! Where a statement speaks of words, they are those of SPEC_ENC, the spec's own encoding (decision D1, log 4). Where it
says that something is refused, the refusal is the spec's own decision (log 21): D2 for words, D3 for PCL, D5 for the
empty stack, D8 and D9 for addresses, D11 for STATUS, D21 for timers, D25 for DAA. -/

section Statements

open Sys2Proof Sys2Proof.Machine

/-! ## Encoding and stepping -/

/-- R124 to R127: decoding the word of an instruction gives the instruction back, for every instruction and every
operand. -/
def Obligations.DecodeOfEncodeIsIdentity : Prop :=
  ∀ i : Instr, i.wf = true → decode (encode i) = .ok i

/-- R127: no two words decode to one instruction; a word that decodes is the word of its instruction. -/
def Obligations.EncodeOfDecodedIsTheWord : Prop :=
  ∀ (w : PWord) (i : Instr), decode w = .ok i → encode i = w

/-- R125, R127, R128: the words that spell no instruction are exactly 0007H..00FFH, 2C00H..2FFFH and
3700H..3FFFH. -/
def Obligations.UnassignedWordsExactly : Prop :=
  ∀ w : PWord, (∃ e, decode w = .error e) ↔
    (0x0007 ≤ w.toNat ∧ w.toNat ≤ 0x00FF) ∨ (0x2C00 ≤ w.toNat ∧ w.toNat ≤ 0x2FFF) ∨
      (0x3700 ≤ w.toNat ∧ w.toNat ≤ 0x3FFF)

/-- Words written out from R124 and R125 decode to the instructions they stand for, one of each format and
family. -/
def Obligations.WrittenWordsDecode : Prop :=
  decode 0b000000000000110#15 = .ok .halt ∧ decode 0b000000101100000#15 = .ok (.addA 0x60) ∧
  decode 0b001000001100000#15 = .ok (.cpl 0x60) ∧ decode 0b010011101100001#15 = .ok (.tabrdl 0x61) ∧
  decode 0b011010110000000#15 = .ok (.movX 0x80) ∧ decode 0b100101010111100#15 = .ok (.jmp 0xABC) ∧
  decode 0b101001100000000#15 = .ok (.call 0x300) ∧ decode 0b110111100001010#15 = .ok (.setBit 0x0A 7) ∧
  decode 0b111101000001010#15 = .ok (.snzBit 0x0A 2)

/-- The state an instruction starts in differs from the one it is fetched in by the two lost-count bits only
(log 12). With an empty script, a running core and no interrupt to acknowledge, a step is the meaning of the decoded
instruction; with cycle-exact TIMING its system clocks are then put on the script (log 25). The same holds of a step
under any other encoding, which is a parameter of the machine (R124, decision D1, log 4). -/
def Obligations.StepRunsDecodedInstruction : Prop :=
  ∀ (s : State) (w : PWord) (i : Instr), s.env = [] → s.halted = false → s.pending = none →
    fetchWord s = some w → decode w = .ok i →
    (∃ b0 b1, settled s = { s with t0 := { s.t0 with blk := b0 }, t1 := { s.t1 with blk := b1 } }) ∧
    (∀ t, exec i (settled s) = .next t → s.opt.timing = .free → step s = .next t) ∧
    (∀ t, exec i (settled s) = .next t → s.opt.timing = .cycleExact →
      step s = .next { t with env := List.replicate (4 * (t.cycles - s.cycles)) .sysClock ++ t.env }) ∧
    (∀ f, exec i (settled s) = .fault f → step s = .fault f) ∧
    (∀ r, exec i (settled s) = .refused r → step s = .refused r) ∧
    (∀ (enc : Encoding) (j : Instr), enc w = .ok j →
      nextStep enc s = clockedOutcome s.cycles (exec j (settled s)))

/-- The word the host places is what the next step runs (log 24); a word that spells no instruction is refused (R128,
decision D2, log 21). A fetch where no word was ever programmed, of which R128 says that the source is silent, is a fault
by the model's choice (log 3). -/
def Obligations.PlacedWordIsRunOrRefused : Prop :=
  ∀ (s : State) (w : PWord),
    (∀ i t, decode w = .ok i → s.opt.timing = .free →
      exec i (settled { s with pm := Memory.write s.pm s.pc.toNat w, halted := false, env := [] }) = .next t →
      step (s.withFetchWord 15 w.toNat) = .next t) ∧
    (∀ e, decode w = .error e → step (s.withFetchWord 15 w.toNat) = .refused (.unassignedWord w)) ∧
    (s.env = [] → s.halted = false → s.pending = none → fetchWord s = none →
      step s = .fault (.unprogrammedWord s.pc))

/-! ## Results: the accumulator forms -/

/-- R153, R156, with R163 and R164 for the meaning of the flags. The words are SPEC_ENC's: the model's choice by
decision D1 (log 4). -/
def Obligations.AddAndSubImmediate : Prop :=
  ∀ (x : Byte) (s : State),
    encode (.addX x) = wordWith 0x3000 x ∧ encode (.subX x) = wordWith 0x3100 x ∧
    exec (.addX x) s = .next { s.goOn 1 with acc := s.acc + x, flags := Flags.ofSum s.acc x false } ∧
    exec (.subX x) s = .next { s.goOn 1 with acc := s.acc - x, flags := Flags.ofDifference s.acc x true }

/-- R177, R178, R179, R218. The words are SPEC_ENC's: the model's choice by decision D1 (log 4). -/
def Obligations.LogicAndMoveImmediate : Prop :=
  ∀ (x : Byte) (s : State),
    encode (.andX x) = wordWith 0x3200 x ∧ encode (.orX x) = wordWith 0x3300 x ∧
    encode (.xorX x) = wordWith 0x3400 x ∧ encode (.movX x) = wordWith 0x3500 x ∧
    exec (.andX x) s = .next { s.goOn 1 with acc := s.acc &&& x, flags := s.flags.zeroOf (s.acc &&& x) } ∧
    exec (.orX x) s = .next { s.goOn 1 with acc := s.acc ||| x, flags := s.flags.zeroOf (s.acc ||| x) } ∧
    exec (.xorX x) s = .next { s.goOn 1 with acc := s.acc ^^^ x, flags := s.flags.zeroOf (s.acc ^^^ x) } ∧
    exec (.movX x) s = .next { s.goOn 1 with acc := x }

/-- R151, R154, R157, R159. `s1` is the state after the read of `[m]` (R90). The words are SPEC_ENC's: the model's
choice by decision D1 (log 4). -/
def Obligations.AccArithmeticFromMemory : Prop :=
  ∀ (m v : Byte) (s s1 : State),
    encode (.addA m) = wordWith 0x0100 m ∧ encode (.adcA m) = wordWith 0x0300 m ∧
    encode (.subA m) = wordWith 0x0500 m ∧ encode (.sbcA m) = wordWith 0x0700 m ∧
    (memRead m (fetched s) = .ok (v, s1) →
      s1.pc = s.pc + 1 ∧ s1.cycles = s.cycles + 1 ∧
      exec (.addA m) s = .next { s1 with acc := s.acc + v, flags := Flags.ofSum s.acc v false } ∧
      exec (.adcA m) s = .next { s1 with
        acc := s.acc + v + BitVec.ofNat 8 s.flags.c.toNat, flags := Flags.ofSum s.acc v s.flags.c } ∧
      exec (.subA m) s = .next { s1 with acc := s.acc - v, flags := Flags.ofDifference s.acc v true } ∧
      exec (.sbcA m) s = .next { s1 with
        acc := s.acc - v - BitVec.ofNat 8 (!s.flags.c).toNat, flags := Flags.ofDifference s.acc v s.flags.c })

/-- R171, R172, R173, R181, R191, R193. The words are SPEC_ENC's: the model's choice by decision D1 (log 4). -/
def Obligations.AccLogicFromMemory : Prop :=
  ∀ (m v : Byte) (s s1 : State),
    encode (.andA m) = wordWith 0x0A00 m ∧ encode (.orA m) = wordWith 0x0B00 m ∧
    encode (.xorA m) = wordWith 0x0C00 m ∧ encode (.cplA m) = wordWith 0x1100 m ∧
    encode (.incA m) = wordWith 0x1200 m ∧ encode (.decA m) = wordWith 0x1400 m ∧
    (memRead m (fetched s) = .ok (v, s1) →
      s1.pc = s.pc + 1 ∧ s1.cycles = s.cycles + 1 ∧
      exec (.andA m) s = .next { s1 with acc := s.acc &&& v, flags := s.flags.zeroOf (s.acc &&& v) } ∧
      exec (.orA m) s = .next { s1 with acc := s.acc ||| v, flags := s.flags.zeroOf (s.acc ||| v) } ∧
      exec (.xorA m) s = .next { s1 with acc := s.acc ^^^ v, flags := s.flags.zeroOf (s.acc ^^^ v) } ∧
      exec (.cplA m) s = .next { s1 with acc := 0xFF - v, flags := s.flags.zeroOf (0xFF - v) } ∧
      exec (.incA m) s = .next { s1 with acc := v + 1, flags := s.flags.zeroOf (v + 1) } ∧
      exec (.decA m) s = .next { s1 with acc := v - 1, flags := s.flags.zeroOf (v - 1) })

/-- R201, R203, R205, R207, R216, R277. The words are SPEC_ENC's: the model's choice by decision D1 (log 4). -/
def Obligations.AccMoveAndRotateFromMemory : Prop :=
  ∀ (m v : Byte) (s s1 : State),
    encode (.movA m) = wordWith 0x1E00 m ∧ encode (.swapA m) = wordWith 0x2B00 m ∧
    encode (.rrA m) = wordWith 0x1600 m ∧ encode (.rrcA m) = wordWith 0x1800 m ∧
    encode (.rlA m) = wordWith 0x1A00 m ∧ encode (.rlcA m) = wordWith 0x1C00 m ∧
    (memRead m (fetched s) = .ok (v, s1) →
      s1.pc = s.pc + 1 ∧ s1.cycles = s.cycles + 1 ∧
      exec (.movA m) s = .next { s1 with acc := v } ∧
      exec (.swapA m) s = .next { s1 with acc := v.rotateLeft 4 } ∧
      exec (.rrA m) s = .next { s1 with acc := v.rotateRight 1 } ∧
      exec (.rlA m) s = .next { s1 with acc := v.rotateLeft 1 } ∧
      exec (.rrcA m) s = .next { s1 with
        acc := (v >>> 1) ||| (if s.flags.c then 0x80 else 0)
        flags := { s.flags with c := v.getLsbD 0 } } ∧
      exec (.rlcA m) s = .next { s1 with
        acc := (v <<< 1) ||| (if s.flags.c then 0x01 else 0)
        flags := { s.flags with c := v.getLsbD 7 } })

/-! ## Results: the memory forms -/

/-- R152, R155, R158, R160: the destination is read, then the result is stored there by the write rule, then the flags
are written; a destination that resolves to STATUS is refused (R35, decision D11, log 21). The words are SPEC_ENC's
(log 4). -/
def Obligations.MemoryArithmetic : Prop :=
  ∀ (m v : Byte) (s s1 s2 : State) (l : Loc),
    encode (.addM m) = wordWith 0x0200 m ∧ encode (.adcM m) = wordWith 0x0400 m ∧
    encode (.subM m) = wordWith 0x0600 m ∧ encode (.sbcM m) = wordWith 0x0800 m ∧
    (resolve m s = .ok Loc.statusReg →
      exec (.addM m) s = .refused .statusDest ∧ exec (.adcM m) s = .refused .statusDest ∧
      exec (.subM m) s = .refused .statusDest ∧ exec (.sbcM m) s = .refused .statusDest) ∧
    (resolve m s = .ok l → l ≠ Loc.statusReg → readLoc l (fetched s) = .ok (v, s1) →
      (storeLoc l (s.acc + v) s1 = .ok s2 →
        exec (.addM m) s = .next { s2 with flags := Flags.ofSum s.acc v false }) ∧
      (storeLoc l (s.acc + v + BitVec.ofNat 8 s.flags.c.toNat) s1 = .ok s2 →
        exec (.adcM m) s = .next { s2 with flags := Flags.ofSum s.acc v s.flags.c }) ∧
      (storeLoc l (s.acc - v) s1 = .ok s2 →
        exec (.subM m) s = .next { s2 with flags := Flags.ofDifference s.acc v true }) ∧
      (storeLoc l (s.acc - v - BitVec.ofNat 8 (!s.flags.c).toNat) s1 = .ok s2 →
        exec (.sbcM m) s = .next { s2 with flags := Flags.ofDifference s.acc v s.flags.c }))

/-- R174, R175, R176, R180, R192, R194, and the refusal of R35 (decision D11, log 21). The words are SPEC_ENC's:
the model's choice by decision D1 (log 4). -/
def Obligations.MemoryLogic : Prop :=
  ∀ (m v : Byte) (s s1 s2 : State) (l : Loc),
    encode (.andM m) = wordWith 0x0D00 m ∧ encode (.orM m) = wordWith 0x0E00 m ∧
    encode (.xorM m) = wordWith 0x0F00 m ∧ encode (.cpl m) = wordWith 0x1000 m ∧
    encode (.inc m) = wordWith 0x1300 m ∧ encode (.dec m) = wordWith 0x1500 m ∧
    (resolve m s = .ok Loc.statusReg →
      exec (.andM m) s = .refused .statusDest ∧ exec (.orM m) s = .refused .statusDest ∧
      exec (.xorM m) s = .refused .statusDest ∧ exec (.cpl m) s = .refused .statusDest ∧
      exec (.inc m) s = .refused .statusDest ∧ exec (.dec m) s = .refused .statusDest) ∧
    (resolve m s = .ok l → l ≠ Loc.statusReg → readLoc l (fetched s) = .ok (v, s1) →
      (storeLoc l (s.acc &&& v) s1 = .ok s2 →
        exec (.andM m) s = .next { s2 with flags := s.flags.zeroOf (s.acc &&& v) }) ∧
      (storeLoc l (s.acc ||| v) s1 = .ok s2 →
        exec (.orM m) s = .next { s2 with flags := s.flags.zeroOf (s.acc ||| v) }) ∧
      (storeLoc l (s.acc ^^^ v) s1 = .ok s2 →
        exec (.xorM m) s = .next { s2 with flags := s.flags.zeroOf (s.acc ^^^ v) }) ∧
      (storeLoc l (0xFF - v) s1 = .ok s2 →
        exec (.cpl m) s = .next { s2 with flags := s.flags.zeroOf (0xFF - v) }) ∧
      (storeLoc l (v + 1) s1 = .ok s2 → exec (.inc m) s = .next { s2 with flags := s.flags.zeroOf (v + 1) }) ∧
      (storeLoc l (v - 1) s1 = .ok s2 → exec (.dec m) s = .next { s2 with flags := s.flags.zeroOf (v - 1) }))

/-- R204, R208, and the refusal of R35 (decision D11, log 21). The words are SPEC_ENC's: the model's choice by
decision D1 (log 4). -/
def Obligations.MemoryRotateThroughCarry : Prop :=
  ∀ (m v : Byte) (s s1 s2 : State) (l : Loc),
    encode (.rrc m) = wordWith 0x1900 m ∧ encode (.rlc m) = wordWith 0x1D00 m ∧
    (resolve m s = .ok Loc.statusReg →
      exec (.rrc m) s = .refused .statusDest ∧ exec (.rlc m) s = .refused .statusDest) ∧
    (resolve m s = .ok l → l ≠ Loc.statusReg → readLoc l (fetched s) = .ok (v, s1) →
      (storeLoc l ((v >>> 1) ||| (if s.flags.c then 0x80 else 0)) s1 = .ok s2 →
        exec (.rrc m) s = .next { s2 with flags := { s.flags with c := v.getLsbD 0 } }) ∧
      (storeLoc l ((v <<< 1) ||| (if s.flags.c then 0x01 else 0)) s1 = .ok s2 →
        exec (.rlc m) s = .next { s2 with flags := { s.flags with c := v.getLsbD 7 } }))

/-- R202, R206, R226, R227, R276: the byte is read, changed and written back; STATUS is an allowed destination. The
words are SPEC_ENC's: the model's choice by decision D1 (log 4). -/
def Obligations.MemoryUpdates : Prop :=
  ∀ (m v : Byte) (i : BitVec 3) (s s1 s2 : State) (l : Loc),
    encode (.rr m) = wordWith 0x1700 m ∧ encode (.rl m) = wordWith 0x1B00 m ∧
    encode (.swap m) = wordWith 0x2A00 m ∧ encode (.clrBit m i) = bitWordWith 0x6000 i m ∧
    encode (.setBit m i) = bitWordWith 0x6800 i m ∧
    (resolve m s = .ok l → readLoc l (fetched s) = .ok (v, s1) →
      (storeLoc l (v.rotateRight 1) s1 = .ok s2 → exec (.rr m) s = .next s2) ∧
      (storeLoc l (v.rotateLeft 1) s1 = .ok s2 → exec (.rl m) s = .next s2) ∧
      (storeLoc l (v.rotateLeft 4) s1 = .ok s2 → exec (.swap m) s = .next s2) ∧
      (storeLoc l (v &&& ~~~(BitVec.ofNat 8 (2 ^ i.toNat))) s1 = .ok s2 → exec (.clrBit m i) s = .next s2) ∧
      (storeLoc l (v ||| BitVec.ofNat 8 (2 ^ i.toNat)) s1 = .ok s2 → exec (.setBit m i) s = .next s2))

/-- R217, R271, R272: the byte is written and the location is not read. The words are SPEC_ENC's: the model's
choice by decision D1 (log 4). -/
def Obligations.MemoryStores : Prop :=
  ∀ (m : Byte) (s s2 : State) (l : Loc),
    encode (.movM m) = wordWith 0x1F00 m ∧ encode (.clrAll m) = wordWith 0x2800 m ∧
    encode (.setAll m) = wordWith 0x2900 m ∧
    (resolve m s = .ok l →
      (storeLoc l s.acc (fetched s) = .ok s2 → exec (.movM m) s = .next s2) ∧
      (storeLoc l 0x00 (fetched s) = .ok s2 → exec (.clrAll m) s = .next s2) ∧
      (storeLoc l 0xFF (fetched s) = .ok s2 → exec (.setAll m) s = .next s2))

/-- R161: the whole rule, its refused corner (decision D25) and the refused destination STATUS (decision D11) included
(log 21). The word is SPEC_ENC's (log 4). -/
def Obligations.DecimalAdjust : Prop :=
  ∀ (m : Byte) (s s2 : State) (l : Loc) (lo hi nlo ac1 nhi : Nat) (c : Bool),
    encode (.daa m) = wordWith 0x0900 m ∧
    (resolve m s = .ok Loc.statusReg → exec (.daa m) s = .refused .statusDest) ∧
    (resolve m s = .ok l → l ≠ Loc.statusReg → lo = s.acc.toNat % 16 → hi = s.acc.toNat / 16 →
      (9 < lo ∧ s.flags.ac = true → exec (.daa m) s = .refused .daaCorner) ∧
      (¬ (9 < lo ∧ s.flags.ac = true) →
        (9 < lo ∨ s.flags.ac = true → nlo = (lo + 6) % 16) →
        (¬ (9 < lo ∨ s.flags.ac = true) → nlo = lo) →
        (ac1 = if 9 < lo then 1 else 0) →
        (9 < hi + ac1 ∨ s.flags.c = true → nhi = (hi + 6 + ac1) % 16 ∧ c = true) →
        (¬ (9 < hi + ac1 ∨ s.flags.c = true) → nhi = (hi + ac1) % 16 ∧ c = s.flags.c) →
        storeLoc l (BitVec.ofNat 8 (16 * nhi + nlo)) (fetched s) = .ok s2 →
        exec (.daa m) s = .next { s2 with flags := { s.flags with c := c } }))

/-- What R161 is for: ADD A,x of two BCD bytes and then DAA [m] give the BCD digits of the decimal sum in [m] and its
hundred in C. -/
def Obligations.DaaAfterAddOfBcdIsDecimalSum : Prop :=
  ∀ (a b m : Byte) (s : State), a.toNat % 16 ≤ 9 → a.toNat / 16 ≤ 9 → b.toNat % 16 ≤ 9 → b.toNat / 16 ≤ 9 →
    s.acc = a → 0x60 ≤ m.toNat →
    ∃ t u, exec (.addX b) s = .next t ∧ exec (.daa m) t = .next u ∧
      ∃ r, Memory.read u.ram m.toNat = some r ∧ r.toNat % 16 ≤ 9 ∧ r.toNat / 16 ≤ 9 ∧
        100 * u.flags.c.toNat + 10 * (r.toNat / 16) + r.toNat % 16 =
          (10 * (a.toNat / 16) + a.toNat % 16) + (10 * (b.toNat / 16) + b.toNat % 16)

/-! ## Results: skips, jumps, returns, table reads, miscellaneous -/

/-- R232, R234, R235. The words are SPEC_ENC's: the model's choice by decision D1 (log 4). -/
def Obligations.TestSkips : Prop :=
  ∀ (m v : Byte) (i : BitVec 3) (s s1 : State),
    encode (.sz m) = wordWith 0x2000 m ∧ encode (.szBit m i) = bitWordWith 0x7000 i m ∧
    encode (.snzBit m i) = bitWordWith 0x7800 i m ∧
    (memRead m (fetched s) = .ok (v, s1) →
      exec (.sz m) s = .next { s1 with
        pc := s.pc + (if v = 0 then 2 else 1), cycles := s.cycles + (if v = 0 then 2 else 1) } ∧
      exec (.szBit m i) s = .next { s1 with
        pc := s.pc + (if v.getLsbD i.toNat then 1 else 2)
        cycles := s.cycles + (if v.getLsbD i.toNat then 1 else 2) } ∧
      exec (.snzBit m i) s = .next { s1 with
        pc := s.pc + (if v.getLsbD i.toNat then 2 else 1)
        cycles := s.cycles + (if v.getLsbD i.toNat then 2 else 1) })

/-- R233, R238, R239: the accumulator is loaded whether or not the skip is taken; no flag is written. The words are
SPEC_ENC's: the model's choice by decision D1 (log 4). -/
def Obligations.AccumulatorSkips : Prop :=
  ∀ (m v : Byte) (s s1 : State),
    encode (.szA m) = wordWith 0x2100 m ∧ encode (.sizA m) = wordWith 0x2400 m ∧
    encode (.sdzA m) = wordWith 0x2500 m ∧
    (memRead m (fetched s) = .ok (v, s1) →
      exec (.szA m) s = .next { s1 with
        acc := v
        pc := s.pc + (if v = 0 then 2 else 1), cycles := s.cycles + (if v = 0 then 2 else 1) } ∧
      exec (.sizA m) s = .next { s1 with
        acc := v + 1
        pc := s.pc + (if v = 0xFF then 2 else 1), cycles := s.cycles + (if v = 0xFF then 2 else 1) } ∧
      exec (.sdzA m) s = .next { s1 with
        acc := v - 1
        pc := s.pc + (if v = 0x01 then 2 else 1), cycles := s.cycles + (if v = 0x01 then 2 else 1) })

/-- R236, R237, with R246 and R26 for the destination PCL: the write happens whether or not the skip is taken, and a
PCL write that would also skip is refused (decision D3, log 21). The words are SPEC_ENC's (log 4). -/
def Obligations.MemorySkips : Prop :=
  ∀ (m v : Byte) (s s1 s2 : State) (l : Loc),
    encode (.siz m) = wordWith 0x2200 m ∧ encode (.sdz m) = wordWith 0x2300 m ∧
    (resolve m s = .ok l → readLoc l (fetched s) = .ok (v, s1) →
      (l = Loc.pcl → v = 0xFF → exec (.siz m) s = .refused .pclSkip) ∧
      (l = Loc.pcl → v = 0x01 → exec (.sdz m) s = .refused .pclSkip) ∧
      (storeLoc l (v + 1) s1 = .ok s2 →
        (v ≠ 0xFF → exec (.siz m) s = .next s2) ∧
        (v = 0xFF → l ≠ Loc.pcl →
          exec (.siz m) s = .next { s2 with pc := s.pc + 2, cycles := s.cycles + 2 })) ∧
      (storeLoc l (v - 1) s1 = .ok s2 →
        (v ≠ 0x01 → exec (.sdz m) s = .next s2) ∧
        (v = 0x01 → l ≠ Loc.pcl →
          exec (.sdz m) s = .next { s2 with pc := s.pc + 2, cycles := s.cycles + 2 })))

/-- R231, R240 with R29: CALL pushes the address of the next instruction; on a full stack the oldest of the six
entries is lost. The words are SPEC_ENC's: the model's choice by decision D1 (log 4). -/
def Obligations.JumpAndCall : Prop :=
  ∀ (addr : PAddr) (s : State),
    encode (.jmp addr) = jumpWordWith 0x4000 addr ∧ encode (.call addr) = jumpWordWith 0x5000 addr ∧
    exec (.jmp addr) s = .next { s with pc := addr, cycles := s.cycles + 2 } ∧
    (s.stk.length < 6 →
      exec (.call addr) s = .next { s with pc := addr, stk := (s.pc + 1) :: s.stk, cycles := s.cycles + 2 }) ∧
    (s.stk.length = 6 →
      exec (.call addr) s =
        .next { s with pc := addr, stk := (s.pc + 1) :: s.stk.dropLast, cycles := s.cycles + 2 })

/-- R241, R242, R243 with R31: the newest entry is popped; an empty stack is refused (decision D5, log 21). The words
are SPEC_ENC's (log 4). -/
def Obligations.Returns : Prop :=
  ∀ (x : Byte) (s : State),
    encode .ret = 0x0001 ∧ encode (.retX x) = wordWith 0x3600 x ∧ encode .reti = 0x0002 ∧
    (∀ a rest, s.stk = a :: rest →
      exec .ret s = .next { s with pc := a, stk := rest, cycles := s.cycles + 2 } ∧
      exec (.retX x) s = .next { s with pc := a, stk := rest, acc := x, cycles := s.cycles + 2 } ∧
      exec .reti s = .next { s with pc := a, stk := rest, emi := true, cycles := s.cycles + 2 }) ∧
    (s.stk = [] → exec .ret s = .refused .emptyStack ∧ exec (.retX x) s = .refused .emptyStack ∧
      exec .reti s = .refused .emptyStack)

/-- R261, R262 with R100 and R260: the page of TABRDC is that of `pc + 1`, that of TABRDL is FH; the address is formed
from the old TBLP; the low byte goes to `[m]` by the write rule and the high bits to TBLH. The word is one that was
programmed. With destination PCL the cycles are at least two (log 9). The words are SPEC_ENC's (log 4). -/
def Obligations.TableReads : Prop :=
  ∀ (m : Byte) (w : PWord) (s s1 : State) (l : Loc),
    encode (.tabrdc m) = wordWith 0x2600 m ∧ encode (.tabrdl m) = wordWith 0x2700 m ∧
    (resolve m s = .ok l → writeLoc l (BitVec.ofNat 8 (w.toNat % 256)) (fetched s) = .ok s1 →
      (Memory.read s.pm (256 * ((s.pc + 1).toNat / 256) + s.tblp.toNat) = some w →
        ∃ t, exec (.tabrdc m) s = .next t ∧ 2 ≤ t.cycles - s.cycles ∧
          (l ≠ Loc.pcl → t.cycles = s.cycles + 2 ∧ t.draws = s1.draws) ∧
          t = { s1 with tblh := BitVec.ofNat 7 (w.toNat / 256), cycles := t.cycles, draws := t.draws }) ∧
      (Memory.read s.pm (0xF00 + s.tblp.toNat) = some w →
        ∃ t, exec (.tabrdl m) s = .next t ∧ 2 ≤ t.cycles - s.cycles ∧
          (l ≠ Loc.pcl → t.cycles = s.cycles + 2 ∧ t.draws = s1.draws) ∧
          t = { s1 with tblh := BitVec.ofNat 7 (w.toNat / 256), cycles := t.cycles, draws := t.draws }))

/-- R270, R278 with R320 and R353: HALT keeps every register but TO, PD, the watchdog and the dividers, stops the
core and leaves `pc` at the next instruction. That the buzzer's divider is among those HALT clears is the model's choice
(log 14); the words are SPEC_ENC's (log 4). -/
def Obligations.NopAndHalt : Prop :=
  ∀ s : State, encode .nop = 0x0000 ∧ encode .halt = 0x0006 ∧
    exec .nop s = .next (s.goOn 1) ∧
    exec .halt s = .next { s.goOn 1 with
      pdf := true, tof := false, halted := true, wdtCnt := 0, tbCnt := 0, rtcCnt := 0, bzCnt := 0 }

/-- R273 and the single-step part of R274 and R275. Where the watchdog is cleared, the positions of the time base, the
RTC and the buzzer are free values (R353, log 13). The words are SPEC_ENC's (log 4). -/
def Obligations.ClearWatchdogInstructions : Prop :=
  ∀ s : State, encode .clrWdt = 0x0003 ∧ encode .clrWdt1 = 0x0004 ∧ encode .clrWdt2 = 0x0005 ∧
    (s.opt.wdtEn = true → s.opt.clrWdtTimes = .one →
      (∃ t, exec .clrWdt s = .next t ∧ t = { s.goOn 1 with
        wdtCnt := 0, pdf := false, tof := false
        tbCnt := t.tbCnt, rtcCnt := t.rtcCnt, bzCnt := t.bzCnt, draws := t.draws }) ∧
      exec .clrWdt1 s = .next (s.goOn 1) ∧ exec .clrWdt2 s = .next (s.goOn 1)) ∧
    (s.opt.wdtEn = true → s.opt.clrWdtTimes = .two →
      exec .clrWdt s = .next (s.goOn 1) ∧
      (s.wdt2Done = true → ∃ t, exec .clrWdt1 s = .next t ∧ t = { s.goOn 1 with
        wdtCnt := 0, pdf := false, tof := false, wdt1Done := false, wdt2Done := false
        tbCnt := t.tbCnt, rtcCnt := t.rtcCnt, bzCnt := t.bzCnt, draws := t.draws }) ∧
      (s.wdt2Done = false → exec .clrWdt1 s = .next { s.goOn 1 with wdt1Done := true }) ∧
      (s.wdt1Done = true → ∃ t, exec .clrWdt2 s = .next t ∧ t = { s.goOn 1 with
        wdtCnt := 0, pdf := false, tof := false, wdt1Done := false, wdt2Done := false
        tbCnt := t.tbCnt, rtcCnt := t.rtcCnt, bzCnt := t.bzCnt, draws := t.draws }) ∧
      (s.wdt1Done = false → exec .clrWdt2 s = .next { s.goOn 1 with wdt2Done := true })) ∧
    (s.opt.wdtEn = false → exec .clrWdt s = .next (s.goOn 1) ∧ exec .clrWdt1 s = .next (s.goOn 1) ∧
      exec .clrWdt2 s = .next (s.goOn 1))

/-- R274, R275: with option 4 at two times and both flags clear, the two preclear instructions clear the watchdog in
either order, and one of them executed twice clears nothing. -/
def Obligations.PreclearPairClears : Prop :=
  ∀ s : State, s.opt.wdtEn = true → s.opt.clrWdtTimes = .two → s.wdt1Done = false → s.wdt2Done = false →
    ∃ a b ab ba aa bb, exec .clrWdt1 s = .next a ∧ exec .clrWdt2 s = .next b ∧
      exec .clrWdt2 a = .next ab ∧ exec .clrWdt1 b = .next ba ∧
      exec .clrWdt1 a = .next aa ∧ exec .clrWdt2 b = .next bb ∧
      (∀ t, t = ab ∨ t = ba → t.wdtCnt = 0 ∧ t.tof = false ∧ t.pdf = false ∧ t.wdt1Done = false ∧
        t.wdt2Done = false) ∧
      (∀ t, t = aa ∨ t = bb → t.wdtCnt = s.wdtCnt ∧ t.tof = s.tof ∧ t.pdf = s.pdf) ∧
      aa.wdt1Done = true ∧ aa.wdt2Done = false ∧ bb.wdt1Done = false ∧ bb.wdt2Done = true

/-! ## The access path -/

/-- R84: `resolve`, MemRead and MemWrite, and what NULLREG does. -/
def Obligations.ResolveFollowsItsTable : Prop :=
  ∀ (m v : Byte) (s : State) (l : Loc),
    (m ≠ 0x00 → m ≠ 0x02 → resolve m s = .ok (.data m)) ∧
    (s.mp0 = 0x00 ∨ s.mp0 = 0x02 → resolve 0x00 s = .ok .null) ∧
    (s.mp0 ≠ 0x00 → s.mp0 ≠ 0x02 → resolve 0x00 s = .ok (.data s.mp0)) ∧
    (s.bp = false → s.mp1 = 0x00 ∨ s.mp1 = 0x02 → resolve 0x02 s = .ok .null) ∧
    (s.bp = false → s.mp1 ≠ 0x00 → s.mp1 ≠ 0x02 → resolve 0x02 s = .ok (.data s.mp1)) ∧
    (s.bp = true → 0x40 ≤ s.mp1.toNat → s.mp1.toNat ≤ 0x60 → resolve 0x02 s = .ok (.lcd s.mp1)) ∧
    (s.bp = true → s.mp1.toNat < 0x40 ∨ 0x60 < s.mp1.toNat →
      resolve 0x02 s = .error (.refused (.bank1Hole s.mp1))) ∧
    (resolve m s = .ok l → memRead m s = readLoc l s ∧ memWrite m v s = storeLoc l v s) ∧
    readLoc .null s = .ok (0x00, s) ∧ storeLoc .null v s = .ok s

/-- R85 at the level of instructions: every form with an operand `[m]` does through [00H] or [02H] in bank 0 what it does
directly at the address the pointer holds. (A pointer that holds 00H or 02H itself, R86, and bank 1, R87:
ResolveFollowsItsTable.) -/
def Obligations.IndirectFormsActLikeDirectOnes : Prop :=
  ∀ (i : BitVec 3) (c : Byte → Instr) (p : Byte) (s : State), c ∈ Instr.memoryForms i → p ≠ 0x00 → p ≠ 0x02 →
    (s.mp0 = p → exec (c 0x00) s = exec (c p) s) ∧
    (s.mp1 = p → s.bp = false → exec (c 0x02) s = exec (c p) s)

/-- R90, line by line. `s` is the state during execution: its `pc` is the hardware PC, `pc + 1` of R90. LVDO, bit 5 of
RTCC, is 1 exactly while option 20 and LVDC enable the detector and the supply is low (R370, decision D27, log 28). -/
def Obligations.ReadTable : Prop :=
  ∀ s : State,
    s.lvdo = (s.opt.lvdEn && s.lvdc && s.vddLow) ∧
    memRead 0x01 s = .ok (s.mp0, s) ∧ memRead 0x03 s = .ok (s.mp1, s) ∧
    memRead 0x04 s = .ok (BitVec.ofNat 8 s.bp.toNat, s) ∧ memRead 0x05 s = .ok (s.acc, s) ∧
    memRead 0x06 s = .ok (BitVec.ofNat 8 (s.pc.toNat % 256), s) ∧ memRead 0x07 s = .ok (s.tblp, s) ∧
    memRead 0x08 s = .ok (BitVec.ofNat 8 s.tblh.toNat, s) ∧
    memRead 0x09 s = .ok (BitVec.ofNat 8
      (s.rt.toNat + 8 * s.lvdc.toNat + 16 * s.qosc.toNat + 32 * s.lvdo.toNat), s) ∧
    memRead 0x0A s = .ok (BitVec.ofNat 8 (s.flags.c.toNat + 2 * s.flags.ac.toNat + 4 * s.flags.z.toNat +
      8 * s.flags.ov.toNat + 16 * s.pdf.toNat + 32 * s.tof.toNat), s) ∧
    memRead 0x0B s = .ok (BitVec.ofNat 8 (s.emi.toNat + 2 * s.en.int0.toNat + 4 * s.en.int1.toNat +
      8 * s.en.t0.toNat + 16 * s.req.int0.toNat + 32 * s.req.int1.toNat + 64 * s.req.t0.toNat), s) ∧
    memRead 0x1E s = .ok (BitVec.ofNat 8 (s.en.t1.toNat + 2 * s.en.tb.toNat + 4 * s.en.rtc.toNat +
      16 * s.req.t1.toNat + 32 * s.req.tb.toNat + 64 * s.req.rtc.toNat), s) ∧
    (∃ t, memRead 0x0D s = .ok (s.t0.cnt, t) ∧
      t = { s with t0 := { s.t0 with blk := t.t0.blk }, draws := t.draws }) ∧
    (∃ t, memRead 0x10 s = .ok (s.t1.cnt, t) ∧
      t = { s with t1 := { s.t1 with blk := t.t1.blk }, draws := t.draws }) ∧
    memRead 0x0E s = .ok (BitVec.ofNat 8 (8 * s.t0.te.toNat + 16 * s.t0.ton.toNat + 32 * s.t0.tn2.toNat +
      64 * s.t0.tn0.toNat + 128 * s.t0.tn1.toNat), s) ∧
    memRead 0x11 s = .ok (BitVec.ofNat 8 (8 * s.t1.te.toNat + 16 * s.t1.ton.toNat + 32 * s.t1.tn2.toNat +
      64 * s.t1.tn0.toNat + 128 * s.t1.tn1.toNat), s) ∧
    (∃ b fl t, memRead 0x12 s = .ok (b, t) ∧ (∀ i : Nat, i < 8 → b.getLsbD i = s.paPad fl i) ∧
      t = { s with draws := t.draws }) ∧
    memRead 0x14 s = .ok (s.pb, s) ∧
    (∃ b fl t, memRead 0x16 s = .ok (b, t) ∧ (∀ i : Nat, i < 4 → b.getLsbD i = s.pcPad fl i) ∧ b.toNat < 16 ∧
      t = { s with draws := t.draws }) ∧
    (∀ a : Byte, a.toNat ∈ [0x0C, 0x0F, 0x13, 0x15, 0x17, 0x18, 0x19, 0x1A, 0x1B, 0x1C, 0x1D, 0x1F] →
      memRead a s = .ok (0x00, s)) ∧
    (∀ a : Byte, 0x20 ≤ a.toNat → a.toNat ≤ 0x5F → memRead a s = .error (.refused (.absentData a))) ∧
    (∀ a v : Byte, 0x60 ≤ a.toNat → Memory.read s.ram a.toNat = some v → memRead a s = .ok (v, s)) ∧
    (∀ n : BitVec 4, s.bp = true → 0x40 ≤ s.mp1.toNat → s.mp1.toNat ≤ 0x60 →
      Memory.read s.lcd s.mp1.toNat = some n →
      ∃ b t, memRead 0x02 s = .ok (b, t) ∧ b.toNat % 16 = n.toNat ∧ t = { s with draws := t.draws })

/-- R91, line by line, with R25 (PCL), R332 (TMR0, TMR1) and R336 (the unused timer mode is refused). `s` is the state
during execution. Where RTCC is written, the position in the RTC period is a free value (R353, log 13); that the time
base's position is kept is the model's choice (log 34). -/
def Obligations.WriteTable : Prop :=
  ∀ (v : Byte) (s : State),
    memWrite 0x01 v s = .ok { s with mp0 := v } ∧ memWrite 0x03 v s = .ok { s with mp1 := v } ∧
    memWrite 0x04 v s = .ok { s with bp := v.getLsbD 0 } ∧ memWrite 0x05 v s = .ok { s with acc := v } ∧
    memWrite 0x06 v s = .ok { s with
      pc := BitVec.ofNat 12 (256 * (s.pc.toNat / 256) + v.toNat), cycles := s.cycles + 1 } ∧
    memWrite 0x07 v s = .ok { s with tblp := v } ∧
    (∃ t, memWrite 0x09 v s = .ok t ∧ t = { s with
      rt := BitVec.ofNat 3 v.toNat, lvdc := v.getLsbD 3, qosc := v.getLsbD 4
      rtcCnt := t.rtcCnt, draws := t.draws }) ∧
    memWrite 0x0A v s = .ok { s with flags := ⟨v.getLsbD 0, v.getLsbD 1, v.getLsbD 2, v.getLsbD 3⟩ } ∧
    memWrite 0x0B v s = .ok { s with
      emi := v.getLsbD 0
      en := ⟨v.getLsbD 1, v.getLsbD 2, v.getLsbD 3, s.en.t1, s.en.tb, s.en.rtc⟩
      req := ⟨v.getLsbD 4, v.getLsbD 5, v.getLsbD 6, s.req.t1, s.req.tb, s.req.rtc⟩ } ∧
    memWrite 0x1E v s = .ok { s with
      en := ⟨s.en.int0, s.en.int1, s.en.t0, v.getLsbD 0, v.getLsbD 1, v.getLsbD 2⟩
      req := ⟨s.req.int0, s.req.int1, s.req.t0, v.getLsbD 4, v.getLsbD 5, v.getLsbD 6⟩ } ∧
    (s.t0.ton = false → memWrite 0x0D v s = .ok { s with t0 := { s.t0 with pre := v, cnt := v } }) ∧
    (s.t0.ton = true → memWrite 0x0D v s = .ok { s with t0 := { s.t0 with pre := v } }) ∧
    (s.t1.ton = false → memWrite 0x10 v s = .ok { s with t1 := { s.t1 with pre := v, cnt := v } }) ∧
    (s.t1.ton = true → memWrite 0x10 v s = .ok { s with t1 := { s.t1 with pre := v } }) ∧
    (v.getLsbD 4 = true → v.getLsbD 6 = false → v.getLsbD 7 = false →
      memWrite 0x0E v s = .error (.refused .timerModeUnused) ∧
      memWrite 0x11 v s = .error (.refused .timerModeUnused)) ∧
    (v.getLsbD 4 = false ∨ v.getLsbD 6 = true ∨ v.getLsbD 7 = true →
      (∃ t, memWrite 0x0E v s = .ok t ∧ t = { s with t0 := { s.t0 with
        te := v.getLsbD 3, ton := v.getLsbD 4, tn2 := v.getLsbD 5, tn0 := v.getLsbD 6, tn1 := v.getLsbD 7
        phase := t.t0.phase } }) ∧
      (∃ t, memWrite 0x11 v s = .ok t ∧ t = { s with t1 := { s.t1 with
        te := v.getLsbD 3, ton := v.getLsbD 4, tn2 := v.getLsbD 5, tn0 := v.getLsbD 6, tn1 := v.getLsbD 7
        phase := t.t1.phase } })) ∧
    memWrite 0x12 v s = .ok { s with paLatch := v } ∧
    memWrite 0x16 v s = .ok { s with pcLatch := BitVec.ofNat 4 v.toNat } ∧
    (∀ a : Byte, a.toNat ∈ [0x08, 0x0C, 0x0F, 0x13, 0x14, 0x15, 0x17, 0x18, 0x19, 0x1A, 0x1B, 0x1C, 0x1D, 0x1F] →
      memWrite a v s = .ok s) ∧
    (∀ a : Byte, 0x20 ≤ a.toNat → a.toNat ≤ 0x5F → memWrite a v s = .error (.refused (.absentData a))) ∧
    (∀ a : Byte, 0x60 ≤ a.toNat → ∃ t, memWrite a v s = .ok t ∧ t = { s with ram := t.ram } ∧
      Memory.read t.ram a.toNat = some v ∧
      ∀ b : Nat, b ≠ a.toNat → Memory.read t.ram b = Memory.read s.ram b) ∧
    (s.bp = true → 0x40 ≤ s.mp1.toNat → s.mp1.toNat ≤ 0x60 →
      ∃ t, memWrite 0x02 v s = .ok t ∧ t = { s with lcd := t.lcd } ∧
        Memory.read t.lcd s.mp1.toNat = some (BitVec.ofNat 4 v.toNat) ∧
        ∀ b : Nat, b ≠ s.mp1.toNat → Memory.read t.lcd b = Memory.read s.lcd b)

/-- R55, R87, R367: MOV [02H],A then MOV A,[02H] with BP = 1 and MP1 in 40H..60H brings back the low nibble, shows it at
the four dots of the segment and leaves all of the RAM alone. -/
def Obligations.LcdNibbleComesBack : Prop :=
  ∀ s : State, s.bp = true → 0x40 ≤ s.mp1.toNat → s.mp1.toNat ≤ 0x60 →
    ∃ t u, exec (.movM 0x02) s = .next t ∧ exec (.movA 0x02) t = .next u ∧
      u.acc.toNat % 16 = s.acc.toNat % 16 ∧ u.ram = s.ram ∧
      ∀ c, c < s.opt.lcdCom → c < 4 → ¬ (s.opt.lcdCom = 4 ∧ s.mp1 = 0x60) →
        u.lcdDot (s.mp1.toNat - 0x40) c = some (s.acc.getLsbD c)

/-- R361 for the NMOS pins of PA, whatever option 12 says, for its CMOS outputs that carry no shared function, and for
the four PC pins; R362 and R344 for the buzzer and PFD pins. `fl` is what a floating pin reads (log 11); option 8 is one
choice for PA0 to PA3 and PC (log 33). -/
def Obligations.PadLevels : Prop :=
  ∀ (s : State) (fl : Byte) (i : Nat), i < 8 →
    ((4 ≤ i ∨ s.opt.paLowCmos = false) →
      (s.paLatch.getLsbD i = false → s.paPad fl i = false) ∧
      (s.paLatch.getLsbD i = true → s.paDriven.getLsbD i = true → s.paPad fl i = s.paLevel.getLsbD i) ∧
      (s.paLatch.getLsbD i = true → s.paDriven.getLsbD i = false → (4 ≤ i ∨ s.opt.pullHigh = true) →
        s.paPad fl i = true) ∧
      (s.paLatch.getLsbD i = true → s.paDriven.getLsbD i = false → i < 4 → s.opt.pullHigh = false →
        s.paPad fl i = fl.getLsbD i)) ∧
    (i < 4 → s.opt.paLowCmos = true → (s.opt.pa01Bz = false ∨ 2 ≤ i) → (s.opt.pa3Pfd = false ∨ i ≠ 3) →
      s.paPad fl i = s.paLatch.getLsbD i) ∧
    (i < 4 →
      (s.opt.pcCmos = false →
        (s.pcLatch.getLsbD i = false → s.pcPad fl i = false) ∧
        (s.pcLatch.getLsbD i = true → s.pcDriven.getLsbD i = true → s.pcPad fl i = s.pcLevel.getLsbD i) ∧
        (s.pcLatch.getLsbD i = true → s.pcDriven.getLsbD i = false → s.opt.pullHigh = true →
          s.pcPad fl i = true) ∧
        (s.pcLatch.getLsbD i = true → s.pcDriven.getLsbD i = false → s.opt.pullHigh = false →
          s.pcPad fl i = fl.getLsbD i)) ∧
      (s.opt.pcCmos = true → s.pcPad fl i = s.pcLatch.getLsbD i)) ∧
    (s.opt.pa01Bz = true → s.opt.paLowCmos = true →
      (s.paLatch.getLsbD 0 = true → s.paPad fl 0 = false ∧ s.paPad fl 1 = false) ∧
      (s.paLatch.getLsbD 0 = false → s.paPad fl 0 = s.buzzer) ∧
      (s.paLatch.getLsbD 0 = false → s.paLatch.getLsbD 1 = true → s.paPad fl 1 = false) ∧
      (s.paLatch.getLsbD 0 = false → s.paLatch.getLsbD 1 = false → s.paPad fl 1 = !s.buzzer)) ∧
    (s.opt.pa3Pfd = true → s.opt.paLowCmos = true →
      (s.paLatch.getLsbD 3 = true → s.paPad fl 3 = false) ∧
      (s.paLatch.getLsbD 3 = false → s.pfdTimerOn = true → s.paPad fl 3 = s.pfdFF) ∧
      (s.paLatch.getLsbD 3 = false → s.pfdTimerOn = false → s.paPad fl 3 = fl.getLsbD 3))

/-- R365 and R93: SET [12H].i and CLR [12H].i copy the pad levels of the other seven pins into the latch; in
particular, with NMOS pins, a pin driven low from outside leaves a 0 in its latch bit. -/
def Obligations.PortReadModifyWriteCopiesPads : Prop :=
  ∀ (s : State) (i : BitVec 3),
    ∃ fl t u, exec (.setBit 0x12 i) s = .next t ∧ exec (.clrBit 0x12 i) s = .next u ∧
      t.paLatch.getLsbD i.toNat = true ∧ u.paLatch.getLsbD i.toNat = false ∧
      (∀ j : Nat, j < 8 → j ≠ i.toNat →
        t.paLatch.getLsbD j = s.paPad fl j ∧ u.paLatch.getLsbD j = s.paPad fl j) ∧
      (s.opt.paLowCmos = false →
        ∀ j : Nat, j < 8 → j ≠ i.toNat → s.paDriven.getLsbD j = true → s.paLevel.getLsbD j = false →
          t.paLatch.getLsbD j = false)

/-! ## Frames, for every instruction -/

/-- R80, R84, R93: an instruction changes no byte of data memory and no LCD location but the one its destination
operand resolves to, and no word of program memory. -/
def Obligations.MemoryFrame : Prop :=
  ∀ (i : Instr) (s t : State), exec i s = .next t →
    (∀ a : Nat, (∀ b : Byte, storeTarget i s = some (.data b) → b.toNat ≠ a) →
      Memory.read t.ram a = Memory.read s.ram a) ∧
    (∀ a : Nat, (∀ b : Byte, storeTarget i s = some (.lcd b) → b.toNat ≠ a) →
      Memory.read t.lcd a = Memory.read s.lcd a) ∧
    (∀ a : Nat, Memory.read t.pm a = Memory.read s.pm a)

/-- R20, R39 to R51, R91: a register changes only through an instruction whose destination operand resolves to it, or
whose rule names it: ACC by the `ACC <- ...` forms, TBLH by the table reads, EMI by RETI. -/
def Obligations.RegisterFrame : Prop :=
  ∀ (i : Instr) (s t : State), exec i s = .next t →
    (i.writesAcc = false → storeTarget i s ≠ some (.data 0x05) → t.acc = s.acc) ∧
    (storeTarget i s ≠ some (.data 0x01) → t.mp0 = s.mp0) ∧
    (storeTarget i s ≠ some (.data 0x03) → t.mp1 = s.mp1) ∧
    (storeTarget i s ≠ some (.data 0x04) → t.bp = s.bp) ∧
    (storeTarget i s ≠ some (.data 0x07) → t.tblp = s.tblp) ∧
    (i.isTableRead = false → t.tblh = s.tblh) ∧
    (storeTarget i s ≠ some (.data 0x09) → t.rt = s.rt ∧ t.lvdc = s.lvdc ∧ t.qosc = s.qosc) ∧
    (storeTarget i s ≠ some (.data 0x0B) → i ≠ .reti → t.emi = s.emi) ∧
    (storeTarget i s ≠ some (.data 0x0B) → t.en.int0 = s.en.int0 ∧ t.en.int1 = s.en.int1 ∧ t.en.t0 = s.en.t0 ∧
      t.req.int0 = s.req.int0 ∧ t.req.int1 = s.req.int1 ∧ t.req.t0 = s.req.t0) ∧
    (storeTarget i s ≠ some (.data 0x1E) → t.en.t1 = s.en.t1 ∧ t.en.tb = s.en.tb ∧ t.en.rtc = s.en.rtc ∧
      t.req.t1 = s.req.t1 ∧ t.req.tb = s.req.tb ∧ t.req.rtc = s.req.rtc) ∧
    (storeTarget i s ≠ some (.data 0x0D) → storeTarget i s ≠ some (.data 0x0E) →
      t.t0 = { s.t0 with blk := t.t0.blk }) ∧
    (storeTarget i s ≠ some (.data 0x10) → storeTarget i s ≠ some (.data 0x11) →
      t.t1 = { s.t1 with blk := t.t1.blk }) ∧
    (storeTarget i s ≠ some (.data 0x12) → t.paLatch = s.paLatch) ∧
    (storeTarget i s ≠ some (.data 0x16) → t.pcLatch = s.pcLatch)

/-- R273 to R278, R349, R353 and R5: no instruction but CLR WDT, CLR WDT1, CLR WDT2 and HALT touches the watchdog, the
time base, the buzzer, the preclear flags, TO and PD; only HALT stops the core; no instruction touches the PFD flip-flop,
the clock phase, the inputs, the script or the options. That a write of RTCC leaves the time base is the model's choice
(log 34). -/
def Obligations.UnitsFrame : Prop :=
  ∀ (i : Instr) (s t : State), exec i s = .next t →
    (i.clearsWatchdog = false → t.wdtCnt = s.wdtCnt ∧ t.tbCnt = s.tbCnt ∧ t.bzCnt = s.bzCnt ∧
      t.wdt1Done = s.wdt1Done ∧ t.wdt2Done = s.wdt2Done ∧ t.tof = s.tof ∧ t.pdf = s.pdf) ∧
    (i.clearsWatchdog = false → storeTarget i s ≠ some (.data 0x09) → t.rtcCnt = s.rtcCnt) ∧
    (i ≠ .halt → t.halted = s.halted) ∧
    t.pfdFF = s.pfdFF ∧ t.tPhase = s.tPhase ∧ t.paDriven = s.paDriven ∧ t.paLevel = s.paLevel ∧ t.pb = s.pb ∧
    t.pcDriven = s.pcDriven ∧ t.pcLevel = s.pcLevel ∧ t.vddLow = s.vddLow ∧ t.env = s.env ∧ t.opt = s.opt

/-- R34, with R33's list: a flag that an instruction is not listed as affecting keeps its value: C, AC, Z and OV unless the
destination is STATUS itself (R33, R35), TO and PD whatever the destination. -/
def Obligations.FlagFrame : Prop :=
  ∀ (i : Instr) (s t : State), exec i s = .next t →
    (i.clearsWatchdog = false → t.tof = s.tof ∧ t.pdf = s.pdf) ∧
    (storeTarget i s ≠ some Loc.statusReg →
      (i.flagUse = .none → t.flags = s.flags) ∧
      (i.flagUse = .z → t.flags = { s.flags with z := t.flags.z }) ∧
      (i.flagUse = .c → t.flags = { s.flags with c := t.flags.c }))

/-- R22 to R25, R27 to R31: where the program counter goes, and that only CALL and the returns move the stack. -/
def Obligations.ProgramCounterAndStackFrame : Prop :=
  ∀ (i : Instr) (s t : State), exec i s = .next t →
    (t.pc = s.pc + 1 ∨ (i.isSkip = true ∧ t.pc = s.pc + 2) ∨
      (storeTarget i s = some Loc.pcl ∧ t.pc.toNat / 256 = (s.pc + 1).toNat / 256) ∨
      i = .jmp t.pc ∨ i = .call t.pc ∨ (i.isReturn = true ∧ s.stk.head? = some t.pc)) ∧
    (t.stk = s.stk ∨ (i = .call t.pc ∧ t.stk = (s.pc + 1) :: s.stk.take 5) ∨
      (i.isReturn = true ∧ s.stk = t.pc :: t.stk))

/-- R420's table of cycles. -/
def Obligations.CyclesFollowTheTable : Prop :=
  ∀ (i : Instr) (s t : State), exec i s = .next t →
    (i = .jmp t.pc ∨ i = .call t.pc ∨ i.isReturn = true → t.cycles = s.cycles + 2) ∧
    (i.isTableRead = true → s.cycles + 2 ≤ t.cycles ∧
      (storeTarget i s ≠ some Loc.pcl → t.cycles = s.cycles + 2)) ∧
    (i.isSkip = true → storeTarget i s ≠ some Loc.pcl →
      (t.pc = s.pc + 1 ∧ t.cycles = s.cycles + 1) ∨ (t.pc = s.pc + 2 ∧ t.cycles = s.cycles + 2)) ∧
    (i.isTableRead = false → storeTarget i s = some Loc.pcl → t.cycles = s.cycles + 2) ∧
    (i.isSkip = false → i.isTableRead = false → i.isReturn = false → (∀ a, i ≠ .jmp a ∧ i ≠ .call a) →
      storeTarget i s ≠ some Loc.pcl → t.cycles = s.cycles + 1)

/-! ## Invariants and rules of the whole machine -/

/-- R5, R80, R111, R408: no step changes the program memory or the options. -/
def Obligations.ProgramMemoryAndOptionsAreFixed : Prop :=
  ∀ s t : State, step s = .next t → t.pm = s.pm ∧ t.opt = s.opt

/-- R28, R54, R55, R80, R336, R338: every step from a legal state leads to a legal state. What a rewrite of TMR0C or TMR1C
does to the phase of a measurement, on which the phase clause of `legal` rests, is the model's choice (log 17). -/
def Obligations.EveryStepKeepsLegalStates : Prop :=
  ∀ s t : State, s.legal = true → step s = .next t → t.legal = true

/-- The state after reset is legal (R408). -/
def Obligations.ResetStateIsLegal : Prop :=
  State.reset.legal = true

/-- R408, R65 column 1, R66: the values known after power-on. That the buzzer divider is among them, at 0, is the model's
choice (log 14). -/
def Obligations.ResetStateHasKnownValues : Prop :=
  State.reset.hasResetValues ∧ State.reset.tof = false ∧ State.reset.pdf = false ∧
    (∀ a, Memory.read State.reset.ram a = none) ∧ (∀ a, Memory.read State.reset.lcd a = none)

/-- R36: the complete list of what changes TO or PD. A low voltage reset is decision D29 (log 20); the core's instructions
come with an empty script or as the events `run` and `core` (log 6). -/
def Obligations.OnlyListedEventsChangeToAndPd : Prop :=
  ∀ s t : State, step s = .next t → t.tof ≠ s.tof ∨ t.pdf ≠ s.pdf →
    ((s.env = [] ∨ s.env.head? = some .run ∨ s.env.head? = some .core) ∧ s.halted = false ∧
      ∃ w i, fetchWord s = some w ∧ decode w = .ok i ∧ i.clearsWatchdog = true ∧ t.tof = false) ∨
    ((s.env.head? = some .fsCycle ∨ s.env.head? = some .sysClock ∨ s.env.head? = some (.unit .watchdog)) ∧
      s.opt.wdtEn = true ∧ s.wdtCnt = 0xFFFF ∧ t.tof = true ∧ t.pdf = s.pdf) ∨
    (s.env.head? = some .res ∧ s.halted = true ∧ t.tof = false ∧ t.pdf = true) ∨
    (∃ x, s.env.head? = some (.powerOn x) ∧ t.tof = false ∧ t.pdf = false) ∨
    (∃ x o p, s.env.head? = some (.lowVoltage x o p) ∧ s.opt.lvrEn = true)

/-! ## Interrupts -/

/-- R302, R310, R311, R312, R313, R314: where the running core makes its step at an instruction boundary (with an empty
script, or at a `core` event with any events still to come, log 6), the requested and enabled source of the smallest
priority number is taken when EMI = 1 and the stack is not full, and the entry pushes the address of the next
instruction, clears that request flag and EMI, goes to the vector and changes nothing else; otherwise the step runs an
instruction. The zero-delay choice of decision D13 is log 7. R313 does
not state the entry's cycles: that `cycles` stays is the model's choice (log 8), and so is that the entry puts no system
clock on the script where TIMING is cycle-exact (log 25). `u` is the state with the event taken off. -/
def Obligations.InterruptIsAcknowledgedAndEntered : Prop :=
  (Source.vector .int0 = 0x004 ∧ Source.vector .int1 = 0x008 ∧ Source.vector .t0 = 0x00C ∧
    Source.vector .t1 = 0x010 ∧ Source.vector .tb = 0x014 ∧ Source.vector .rtc = 0x018) ∧
  ∀ s u : State, s.halted = false →
    ((s.env = [] ∧ u = s) ∨ ∃ rest, s.env = .core :: rest ∧ u = { s with env := rest }) →
    (∀ src : Source, s.emi = true → s.stk.length < 6 → s.en.get src = true → s.req.get src = true →
      (∀ x : Source, x.priority < src.priority → ¬ (s.en.get x = true ∧ s.req.get x = true)) →
      ∃ r : SourceBits, (∀ x, r.get x = (if x = src then false else s.req.get x)) ∧
        step s = .next { u with stk := s.pc :: s.stk, req := r, emi := false, pc := src.vector }) ∧
    (s.emi = false ∨ 6 ≤ s.stk.length ∨ (∀ x : Source, ¬ (s.en.get x = true ∧ s.req.get x = true)) →
      step s = runInstr decode u)

/-- R316, R243, R241: RETI right after the entry goes back to the interrupted program with EMI set, RET with EMI
still 0; no other state is restored or changed. The two cycles are those of the return; nothing is said of the entry's
(R313). -/
def Obligations.ReturnFromInterruptRestoresOnlyThePc : Prop :=
  ∀ (src : Source) (s : State), s.stk.length < 6 →
    exec .reti (enterInterrupt src s) =
      .next { s with req := s.req.put false src, emi := true, cycles := (enterInterrupt src s).cycles + 2 } ∧
    exec .ret (enterInterrupt src s) =
      .next { s with req := s.req.put false src, emi := false, cycles := (enterInterrupt src s).cycles + 2 }

/-- R303: a request flag stays set until its interrupt is serviced, an instruction writes INTC0 or INTC1, or the chip is
reset. The core's steps come with an empty script or as the events `run` and `core` (log 6). A watchdog time-out in a cycle
that began in HALT clears no flag, even where a request in that cycle ended HALT: the model's choice (log 15). -/
def Obligations.RequestFlagsStayUntilServedOrCleared : Prop :=
  ∀ (s t : State) (src : Source), step s = .next t → s.req.get src = true → t.req.get src = false →
    ((s.env = [] ∨ s.env.head? = some .core) ∧ s.halted = false ∧ s.pending = some src) ∨
    ((s.env = [] ∨ s.env.head? = some .run ∨ s.env.head? = some .core) ∧ s.halted = false ∧
      ∃ w i, fetchWord s = some w ∧ decode w = .ok i ∧
        (storeTarget i s = some (.data 0x0B) ∨ storeTarget i s = some (.data 0x1E))) ∨
    (s.env.head? = some .res ∨ (∃ x, s.env.head? = some (.powerOn x)) ∨
      (∃ x o p, s.env.head? = some (.lowVoltage x o p))) ∨
    (s.halted = false ∧ s.opt.wdtEn = true ∧ s.wdtCnt = 0xFFFF ∧ t.tof = true ∧ t.pc = 0)

/-! ## HALT and reset -/

/-- R321: the only exits from HALT: a reset from outside, a request flag going from 0 to 1, the fall of the pad of a bit of
port A with its wake-up option on, a WDT overflow (which is then the warm reset). And R323, R322: a request flag going from
0 to 1 does end HALT, and so does the fall of such a pad, by new levels from outside or by a buzzer or PFD output; driving
an NMOS pin low makes one. (One comparison for each event: log 18; the level of a floating pin: log 32.) -/
def Obligations.OnlyListedEventsLeaveHalt : Prop :=
  (∀ s t : State, s.halted = true → step s = .next t → t.halted = false →
    (s.env.head? = some .res ∨ (∃ x, s.env.head? = some (.powerOn x)) ∨
      (∃ x o p, s.env.head? = some (.lowVoltage x o p) ∧ s.opt.lvrEn = true)) ∨
    (∃ src : Source, s.req.get src = false ∧ t.req.get src = true) ∨
    (∃ i, i < 8 ∧ s.opt.paWake.getLsbD i = true ∧ s.paPad s.paLevel i = true ∧ t.paPad t.paLevel i = false) ∨
    (s.opt.wdtEn = true ∧ s.wdtCnt = 0xFFFF ∧ t.tof = true ∧ t.pc = 0 ∧ t.stk = [])) ∧
  (∀ (s t : State) (src : Source), s.halted = true → step s = .next t → s.req.get src = false →
    t.req.get src = true → t.halted = false) ∧
  (∀ (s t : State) (i : Nat), s.halted = true → step s = .next t → i < 8 → s.opt.paWake.getLsbD i = true →
    s.paPad s.paLevel i = true → t.paPad t.paLevel i = false → t.halted = false) ∧
  (∀ (s : State) (a b c : Byte) (d e : BitVec 4) (rest : List Event) (i : Nat), s.halted = true →
    s.env = .pads a b c d e :: rest → i < 8 → s.opt.paWake.getLsbD i = true →
    (4 ≤ i ∨ s.opt.paLowCmos = false) → s.paPad s.paLevel i = true → a.getLsbD i = true → b.getLsbD i = false →
    ∃ t, step s = .next t ∧ t.halted = false)

/-- R320, R327: while HALT lasts the core executes nothing: no register of the core, no memory, no port latch and no
cycle count changes. With no event to come the machine stays as it is (log 19). R430: a HALT nothing can leave, which ends
a run (decision D17), is not left. -/
def Obligations.HaltKeepsTheCore : Prop :=
  ∀ s t : State, s.halted = true → step s = .next t →
    (s.haltedForGood = true → t.haltedForGood = true) ∧
    (s.env = [] → t = s) ∧
    (t.halted = true → t.pc = s.pc ∧ t.stk = s.stk ∧ t.acc = s.acc ∧ t.mp0 = s.mp0 ∧ t.mp1 = s.mp1 ∧ t.bp = s.bp ∧
      t.tblp = s.tblp ∧ t.tblh = s.tblh ∧ t.flags = s.flags ∧ t.tof = s.tof ∧ t.pdf = s.pdf ∧ t.emi = s.emi ∧
      t.en = s.en ∧ t.rt = s.rt ∧ t.lvdc = s.lvdc ∧ t.qosc = s.qosc ∧ t.paLatch = s.paLatch ∧
      t.pcLatch = s.pcLatch ∧ t.ram = s.ram ∧ t.lcd = s.lcd ∧ t.cycles = s.cycles)

/-- R324, R406, R65 column 5: the WDT time-out during HALT, by any event that is the watchdog's cycle of fs (fs from
system clock/4 with the 32768Hz crystal included, log 26), resets PC and SP, sets TO, ends HALT and leaves the other
registers as they were. In the same event the time base, the RTC and the timers may count and set their request flags
(log 15); where none of them does, nothing else changes but the positions of the dividers. -/
def Obligations.WatchdogInHaltIsWarmReset : Prop :=
  ∀ (s : State) (e : Event) (rest : List Event), s.env = e :: rest → s.fsCycleAt .watchdog e → s.opt.wdtEn = true →
    s.halted = true → s.wdtCnt = 0xFFFF →
    ∃ t, step s = .next t ∧ t.pc = 0 ∧ t.stk = [] ∧ t.tof = true ∧ t.halted = false ∧ t.pdf = s.pdf ∧
      s.keepsUnchanged { t with t0 := { t.t0 with cnt := s.t0.cnt }, t1 := { t.t1 with cnt := s.t1.cnt } } ∧
      t.bp = s.bp ∧ t.emi = s.emi ∧ t.en = s.en ∧ t.req.int0 = s.req.int0 ∧ t.req.int1 = s.req.int1 ∧
      (∀ src : Source, s.req.get src = true → t.req.get src = true) ∧
      t.rt = s.rt ∧ t.lvdc = s.lvdc ∧ t.qosc = s.qosc ∧ t.paLatch = s.paLatch ∧ t.pcLatch = s.pcLatch ∧
      t.t0.control = s.t0.control ∧ t.t1.control = s.t1.control ∧
      (s.noTimeOutDue → (e = .sysClock → s.t0.ton = false ∧ s.t1.ton = false) →
        t = { s with
          env := rest, pc := 0, stk := [], tof := true, halted := false
          wdtCnt := t.wdtCnt, tbCnt := t.tbCnt, rtcCnt := t.rtcCnt, bzCnt := t.bzCnt, tPhase := t.tPhase })

/-- R66: TO and PD after each of the five reset conditions, the watchdog's time-out by any event that is its cycle of fs
(fs from system clock/4 included; the fourth system clocks: log 26; the order within one cycle, and one unit's clock alone:
log 15). Power-on is the event of log 20; in the last row PD was set by the HALT that came before. -/
def Obligations.ToAndPdAfterEachReset : Prop :=
  ∀ (s : State) (e : Event) (rest : List Event) (x : Unknowns),
    (s.env = .powerOn x :: rest → ∃ t, step s = .next t ∧ t.tof = false ∧ t.pdf = false) ∧
    (s.env = .res :: rest → s.halted = false → ∃ t, step s = .next t ∧ t.tof = s.tof ∧ t.pdf = s.pdf) ∧
    (s.env = .res :: rest → s.halted = true → ∃ t, step s = .next t ∧ t.tof = false ∧ t.pdf = true) ∧
    (s.env = e :: rest → s.fsCycleAt .watchdog e → s.opt.wdtEn = true → s.wdtCnt = 0xFFFF →
      (s.halted = false → ∃ t, step s = .next t ∧ t.tof = true ∧ t.pdf = s.pdf) ∧
      (s.halted = true → s.pdf = true → ∃ t, step s = .next t ∧ t.tof = true ∧ t.pdf = true))

/-- R401, R65 columns 1 to 4, R67: what the chip resets set and what they leave. The watchdog's time-out comes by
any event that is its cycle of fs (fs from system clock/4 included; the fourth system clocks: log 26). In that event a timer
may count first (order: log 15): a time-out of the time base or the RTC, or the system clock itself; where both timers are
off, where only the watchdog has the cycle, or where neither chain times out in a cycle of fs, the counters stay too. A
power-on leaves the unknown registers at the values its event carries and the RAM and LCD memory
without values (R68, log 20); a low voltage reset, where option 19 enables it, does the same and carries TO and PD as
well, else nothing happens (R371, R407, decision D29, log 20). The model's choices in this: the buzzer divider at 0
(log 14). PFD_FF after RES and the watchdog's reset is a free value (log 31). -/
def Obligations.ChipResetsSetAndKeep : Prop :=
  ∀ (s : State) (e : Event) (rest : List Event) (x : Unknowns) (o p : Bool),
    (s.env = .res :: rest → ∃ t, step s = .next t ∧ t.hasResetValues ∧ s.keepsUnchanged t) ∧
    (s.env = e :: rest → s.fsCycleAt .watchdog e → s.opt.wdtEn = true → s.wdtCnt = 0xFFFF →
      s.halted = false → ∃ t, step s = .next t ∧ t.hasResetValues ∧
        s.keepsUnchanged { t with t0 := { t.t0 with cnt := s.t0.cnt }, t1 := { t.t1 with cnt := s.t1.cnt } } ∧
        ((s.t0.ton = false ∧ s.t1.ton = false) ∨ e = .unit .watchdog ∨ (e = .fsCycle ∧ s.noTimeOutDue) →
          s.keepsUnchanged t)) ∧
    (s.env = .powerOn x :: rest → ∃ t, step s = .next t ∧ t.hasPowerOnValues x ∧ t.tof = false ∧ t.pdf = false) ∧
    (s.env = .lowVoltage x o p :: rest →
      (s.opt.lvrEn = true → ∃ t, step s = .next t ∧ t.hasPowerOnValues x ∧ t.tof = o ∧ t.pdf = p) ∧
      (s.opt.lvrEn = false → step s = .next { s with env := rest }))

/-! ## Timers, watchdog, time base, RTC, pins -/

/-- R333: from a counter equal to its preload N, the first 255 - N count events count up and the 256 - N th overflows
and reloads. -/
def Obligations.TimerPeriodIs256MinusPreload : Prop :=
  ∀ (t : Timer) (k : Nat), t.ton = true → t.blk = false → t.cnt = t.pre →
    (k < 256 - t.pre.toNat →
      t.countEvents k = ({ t with cnt := BitVec.ofNat 8 (t.pre.toNat + k) }, 0)) ∧
    (k = 256 - t.pre.toNat → t.countEvents k = (t, 1))

/-- R333, R341, R344, R345: what a count event does, for each timer: nothing with TON = 0; below FFH the counter goes up by
one; at FFH it is reloaded from the preload, the request flag is set, which ends HALT where it was 0 (R323), the PFD
flip-flop toggles where option 21 selects this timer and not where it selects the other; and an overflow of timer 0 is a
count event of timer 1 exactly where timer 1 is cascaded and takes internal clocks. An event that a read of the counter
coincides with is lost (R339, log 12). -/
def Obligations.TimerOverflowEffects : Prop :=
  ∀ s : State,
    (s.t0.ton = false → countTimer0 s = s) ∧
    (s.t0.ton = true → s.t0.blk = true → countTimer0 s = { s with t0 := { s.t0 with blk := false } }) ∧
    (s.t0.ton = true → s.t0.blk = false → s.t0.cnt ≠ 0xFF →
      countTimer0 s = { s with t0 := { s.t0 with cnt := s.t0.cnt + 1 } }) ∧
    (∀ o : State, s.t0.ton = true → s.t0.blk = false → s.t0.cnt = 0xFF →
      o = { s with
        t0 := { s.t0 with cnt := s.t0.pre }
        req := { s.req with t0 := true }
        halted := s.halted && s.req.t0
        pfdFF := if s.opt.pfdSrc = .pfd0 then !s.pfdFF else s.pfdFF } →
      (s.opt.t1Clk = .tmr0Ovf ∧ s.t1.tn2 = false ∧ s.t1.tn1 = true ∧ (s.t1.tn0 = false ∨ s.t1.phase = .count) →
        countTimer0 s = countTimer1 o) ∧
      (s.opt.t1Clk ≠ .tmr0Ovf ∨ s.t1.tn2 = true ∨ s.t1.tn1 = false ∨ (s.t1.tn0 = true ∧ s.t1.phase ≠ .count) →
        countTimer0 s = o)) ∧
    (s.t1.ton = false → countTimer1 s = s) ∧
    (s.t1.ton = true → s.t1.blk = true → countTimer1 s = { s with t1 := { s.t1 with blk := false } }) ∧
    (s.t1.ton = true → s.t1.blk = false → s.t1.cnt ≠ 0xFF →
      countTimer1 s = { s with t1 := { s.t1 with cnt := s.t1.cnt + 1 } }) ∧
    (s.t1.ton = true → s.t1.blk = false → s.t1.cnt = 0xFF →
      countTimer1 s = { s with
        t1 := { s.t1 with cnt := s.t1.pre }
        req := { s.req with t1 := true }
        halted := s.halted && s.req.t1
        pfdFF := if s.opt.pfdSrc = .pfd1 then !s.pfdFF else s.pfdFF })

/-- R304, R335, R338, R363: what new PB levels do. A falling edge of PB0 or PB1 sets EIF0 or EIF1, no other edge clears or
sets it. In event count mode the active edge of PB2 that TE selects counts timer 0, that of PB3 timer 1, and no other edge
does; at FFH that count event is the overflow of R333, which ends HALT where the request flag was 0 (R323). In pulse width
measurement the edges of PB2 move timer 0 through its phases, those of PB3 timer 1. The last clause says all the event does
but to HALTED, `u` being the state with the new levels and external requests, `v` that after timer 0's pin and `w` that
after timer 1's: timer 0 goes first, so that its overflow reaches a cascaded timer 1 before PB3 does (log 16). The edges are
seen in HALT too (decision D26, log 16); they are taken by TE as it is when they come (log 17); a count event may be lost to
a read (log 12). -/
def Obligations.PinEdgesRequestAndCount : Prop :=
  ∀ (s : State) (a b c : Byte) (d e : BitVec 4) (rest : List Event), s.env = .pads a b c d e :: rest →
    ∃ t, step s = .next t ∧ t.pb = c ∧ (s.halted = false → t.halted = false) ∧
      t.req.int0 = (s.req.int0 || (s.pb.getLsbD 0 && !c.getLsbD 0)) ∧
      t.req.int1 = (s.req.int1 || (s.pb.getLsbD 1 && !c.getLsbD 1)) ∧
      (s.t0.ton = true → s.t0.blk = false → s.t0.tn1 = false → s.t0.tn0 = true → s.t0.cnt ≠ 0xFF →
        t.t0 = { s.t0 with cnt := if s.pb.getLsbD 2 = s.t0.te ∧ c.getLsbD 2 = !s.t0.te then s.t0.cnt + 1
          else s.t0.cnt }) ∧
      (s.t1.ton = true → s.t1.blk = false → s.t1.tn1 = false → s.t1.tn0 = true → s.t1.cnt ≠ 0xFF →
        t.t1 = { s.t1 with cnt := if s.pb.getLsbD 3 = s.t1.te ∧ c.getLsbD 3 = !s.t1.te then s.t1.cnt + 1
          else s.t1.cnt }) ∧
      (s.t0.ton = true → s.t0.blk = false → s.t0.cnt = 0xFF →
        s.t0.activeEdge (s.pb.getLsbD 2) (c.getLsbD 2) →
        t.t0 = { s.t0 with cnt := s.t0.pre } ∧ t.req.t0 = true ∧ (s.req.t0 = false → t.halted = false)) ∧
      (s.t1.ton = true → s.t1.blk = false → s.t1.cnt = 0xFF →
        s.t1.activeEdge (s.pb.getLsbD 3) (c.getLsbD 3) →
        t.t1 = { s.t1 with cnt := s.t1.pre } ∧ t.req.t1 = true ∧ (s.req.t1 = false → t.halted = false)) ∧
      (s.t0.tn1 = true → s.t0.tn0 = true →
        t.t0 = s.t0.afterPin (s.pb.getLsbD 2) (c.getLsbD 2) ∧
        (s.pb.getLsbD 2 ≠ c.getLsbD 2 → t.t0 = (s.t0.pinEdge (c.getLsbD 2)).1)) ∧
      (s.t1.tn1 = true → s.t1.tn0 = true → s.opt.t1Clk ≠ .tmr0Ovf ∨ s.t1.tn2 = true ∨ s.t0.cnt ≠ 0xFF →
        t.t1 = s.t1.afterPin (s.pb.getLsbD 3) (c.getLsbD 3) ∧
        (s.pb.getLsbD 3 ≠ c.getLsbD 3 → t.t1 = (s.t1.pinEdge (c.getLsbD 3)).1)) ∧
      (∀ u v w : State,
        u = { s with
          env := rest, paDriven := a, paLevel := b, pb := c, pcDriven := d, pcLevel := e
          req := { s.req with
            int0 := s.req.int0 || (s.pb.getLsbD 0 && !c.getLsbD 0)
            int1 := s.req.int1 || (s.pb.getLsbD 1 && !c.getLsbD 1) } } →
        (s.t0.activeEdge (s.pb.getLsbD 2) (c.getLsbD 2) → v = countTimer0 u) →
        (¬ s.t0.activeEdge (s.pb.getLsbD 2) (c.getLsbD 2) →
          v = { u with t0 := s.t0.afterPin (s.pb.getLsbD 2) (c.getLsbD 2) }) →
        (s.t1.activeEdge (s.pb.getLsbD 3) (c.getLsbD 3) → w = countTimer1 v) →
        (¬ s.t1.activeEdge (s.pb.getLsbD 3) (c.getLsbD 3) →
          w = { v with t1 := v.t1.afterPin (s.pb.getLsbD 3) (c.getLsbD 3) }) →
        t = { w with halted := t.halted })

/-- R338: one pulse width measurement: setting TON in mode 11 waits for the start edge; from it every internal clock is a
count event; the opposite edge clears TON and keeps the counter; before the start edge and after the measurement no
internal clock counts. -/
def Obligations.PulseWidthMeasurement : Prop :=
  ∀ (t : Timer) (v : Byte), t.ton = false → v.getLsbD 4 = true → v.getLsbD 6 = true → v.getLsbD 7 = true →
    let w := t.setControl v
    let c := (w.pinEdge (v.getLsbD 3)).1
    let d := (c.pinEdge (!v.getLsbD 3)).1
    w.phase = .wait ∧ w.countsInternal = false ∧ w.cnt = t.cnt ∧
    w.pinEdge (!v.getLsbD 3) = (w, false) ∧
    c = { w with phase := .count } ∧ c.countsInternal = true ∧
    d = { c with ton := false, phase := .done } ∧ d.countsInternal = false ∧ d.cnt = c.cnt ∧
    (w.pinEdge (v.getLsbD 3)).2 = false ∧ (c.pinEdge (!v.getLsbD 3)).2 = false

/-- R346, R347: with the watchdog on and cleared, fewer than 65536 cycles of fs time nothing out; the 65536th resets the
chip and sets TO. R346, R348, R350: step by step, whatever option 2 takes as fs, a cycle of fs counts an enabled watchdog
and times it out at FFFFH, and leaves a disabled one; with fs from system clock/4 it stands still in HALT unless the system
clock is the 32768Hz crystal (R327). Which system clock is a fourth one is log 26; the buzzer divider among the reset
values is log 14. -/
def Obligations.WatchdogPeriodIs65536 : Prop :=
  (∀ (s : State) (n : Nat), s.env = List.replicate n .fsCycle → s.opt.wdtClk ≠ .sysDiv4 → s.opt.wdtEn = true →
    s.wdtCnt = 0 → s.halted = false →
    (n < 65536 → ∃ t, runNext s n = some t ∧ t.wdtCnt.toNat = n ∧ t.tof = s.tof ∧ t.pc = s.pc ∧ t.stk = s.stk) ∧
    (n = 65536 → ∃ t, runNext s n = some t ∧ t.tof = true ∧ t.pdf = s.pdf ∧ t.pc = 0 ∧ t.stk = [])) ∧
  ∀ (s : State) (e : Event) (rest : List Event), s.env = e :: rest →
    (s.fsCycleAt .watchdog e →
      (s.opt.wdtEn = true → s.wdtCnt ≠ 0xFFFF → ∃ t, step s = .next t ∧ t.wdtCnt = s.wdtCnt + 1 ∧
        t.tof = s.tof ∧ t.pdf = s.pdf ∧ t.pc = s.pc ∧ t.stk = s.stk) ∧
      (s.opt.wdtEn = true → s.wdtCnt = 0xFFFF → s.halted = false → ∃ t, step s = .next t ∧ t.hasResetValues ∧
        t.tof = true ∧ t.pdf = s.pdf) ∧
      (s.opt.wdtEn = false → ∃ t, step s = .next t ∧ t.wdtCnt = s.wdtCnt ∧
        t.tof = s.tof ∧ t.pdf = s.pdf ∧ t.pc = s.pc ∧ t.stk = s.stk)) ∧
    (e = .sysClock → s.tPhase ≠ 3 → ∃ t, step s = .next t ∧ t.wdtCnt = s.wdtCnt) ∧
    (s.opt.wdtClk = .sysDiv4 → s.halted = true → s.opt.osc ≠ .crystal32768 →
      e = .sysClock ∨ e = .fsCycle ∨ e = .unit .watchdog → step s = .next { s with env := rest })

/-- R351, R352, R362: counted from a clear, TBF is set at the 2^(option 5) th cycle of fs and RTF at the 2^(8 + RT) th, and
neither before; BZ is a square wave of fs/2^(option 6), low in the first half of its period and high in the second (which
half comes first is log 14). Step by step, whatever option 2 takes as fs (R346; the fourth system clocks: log 26), a cycle
of fs at one of these units moves its divider by one or, at the end of the period, to 0 with the request flag set. -/
def Obligations.TimeBaseAndRtcPeriods : Prop :=
  (∀ (s : State) (n : Nat), s.env = List.replicate n .fsCycle → s.opt.wdtClk ≠ .sysDiv4 → s.opt.wdtEn = false →
    s.opt.wf = true →
    ∃ t, runNext s n = some t ∧
      (s.tbCnt = 0 → s.req.tb = false →
        (n < 2 ^ s.opt.tbDiv → t.req.tb = false) ∧ (n = 2 ^ s.opt.tbDiv → t.req.tb = true)) ∧
      (s.rtcCnt = 0 → s.req.rtc = false →
        (n < 2 ^ (8 + s.rt.toNat) → t.req.rtc = false) ∧ (n = 2 ^ (8 + s.rt.toNat) → t.req.rtc = true)) ∧
      t.buzzer = decide (2 ^ (s.opt.bzDiv - 1) ≤ (s.bzCnt.toNat + n) % 2 ^ s.opt.bzDiv)) ∧
  ∀ (s : State) (e : Event) (rest : List Event), s.env = e :: rest → (s.opt.wdtEn = false ∨ s.wdtCnt ≠ 0xFFFF) →
    (s.fsCycleAt .timeBase e → ∃ t, step s = .next t ∧
      (s.tbCnt.toNat + 1 < 2 ^ s.opt.tbDiv → t.tbCnt = s.tbCnt + 1 ∧ t.req.tb = s.req.tb) ∧
      (2 ^ s.opt.tbDiv ≤ s.tbCnt.toNat + 1 → t.tbCnt = 0 ∧ t.req.tb = true)) ∧
    (s.fsCycleAt .rtc e → ∃ t, step s = .next t ∧
      (s.rtcCnt.toNat + 1 < 2 ^ (8 + s.rt.toNat) → t.rtcCnt = s.rtcCnt + 1 ∧ t.req.rtc = s.req.rtc) ∧
      (2 ^ (8 + s.rt.toNat) ≤ s.rtcCnt.toNat + 1 → t.rtcCnt = 0 ∧ t.req.rtc = true)) ∧
    (s.fsCycleAt .buzzer e → ∃ t, step s = .next t ∧ t.bzCnt = s.bzCnt + 1)

/-- R331, R327: which clock counts a timer that takes internal clocks (timer mode, or pulse width measurement in phase
COUNT). A cycle of the system clock counts timer 0 with TN2 = 1 where option 10 selects the system clock, and with
system clock/4 at every fourth; it counts timer 1 with TN2 = 0 where option 11 selects the system clock, and with TN2 = 1
at every fourth. In HALT the system clock stands unless it is the 32768Hz crystal. An RTC time-out counts timer 0 with
TN2 = 0; a time base time-out counts timer 1 with TN2 = 0 where option 11 selects the time base; with fs from system
clock/4 (option 2) those time-outs come at fourth system clocks. Which cycle is a fourth one is the model's choice
(log 26). A `unit` event gives one unit alone a cycle of its clock (log 15): to a timer one count event (R333) exactly where
the system clock runs and the timer takes it or a division of it, whichever division that is, and nothing elsewhere; to the
RTC or the time base a cycle of fs, whose time-out counts the timer that takes it. -/
def Obligations.TimerClockSources : Prop :=
  ∀ (s : State) (rest : List Event),
    (s.env = .sysClock :: rest ∨ s.env = .unit .timer0 :: rest ∨ s.env = .unit .timer1 :: rest → s.halted = true →
      s.opt.osc ≠ .crystal32768 → step s = .next { s with env := rest }) ∧
    (s.env = .unit .timer0 :: rest →
      ((s.halted = false ∨ s.opt.osc = .crystal32768) ∧ s.t0.tn2 = true ∧ s.t0.takesClocks = true →
        ∃ t, step s = .next t ∧ t = { countTimer0 { s with env := rest } with halted := t.halted } ∧
          (s.halted = false → t.halted = false)) ∧
      (s.t0.tn2 = false ∨ s.t0.takesClocks = false → step s = .next { s with env := rest })) ∧
    (s.env = .unit .timer1 :: rest →
      ((s.halted = false ∨ s.opt.osc = .crystal32768) ∧ (s.t1.tn2 = true ∨ s.opt.t1Clk = .sys) ∧
          s.t1.takesClocks = true →
        ∃ t, step s = .next t ∧ t = { countTimer1 { s with env := rest } with halted := t.halted } ∧
          (s.halted = false → t.halted = false)) ∧
      ((s.t1.tn2 = false ∧ s.opt.t1Clk ≠ .sys) ∨ s.t1.takesClocks = false →
        step s = .next { s with env := rest })) ∧
    (s.t0.blk = false → s.t1.blk = false → s.t0.cnt ≠ 0xFF → s.t1.cnt ≠ 0xFF →
      (s.env = .unit .timer0 :: rest → (s.halted = false ∨ s.opt.osc = .crystal32768) → s.t0.tn2 = true →
        s.t0.takesClocks = true →
        step s = .next { s with env := rest, t0 := { s.t0 with cnt := s.t0.cnt + 1 } }) ∧
      (s.env = .unit .timer1 :: rest → (s.halted = false ∨ s.opt.osc = .crystal32768) →
        (s.t1.tn2 = true ∨ s.opt.t1Clk = .sys) → s.t1.takesClocks = true →
        step s = .next { s with env := rest, t1 := { s.t1 with cnt := s.t1.cnt + 1 } }) ∧
      (s.env = .unit .rtc :: rest → s.fsCycleAt .rtc (.unit .rtc) → ∃ t, step s = .next t ∧ t.t1 = s.t1 ∧
        t.t0 = { s.t0 with
          cnt := if s.t0.takesClocks ∧ s.t0.tn2 = false ∧ 2 ^ (8 + s.rt.toNat) ≤ s.rtcCnt.toNat + 1
            then s.t0.cnt + 1 else s.t0.cnt }) ∧
      (s.env = .unit .timeBase :: rest → s.fsCycleAt .timeBase (.unit .timeBase) → ∃ t, step s = .next t ∧
        t.t0 = s.t0 ∧
        t.t1 = { s.t1 with
          cnt := if s.t1.takesClocks ∧ s.t1.tn2 = false ∧ s.opt.t1Clk = .tbOvf ∧ 2 ^ s.opt.tbDiv ≤ s.tbCnt.toNat + 1
            then s.t1.cnt + 1 else s.t1.cnt }) ∧
      (s.env = .sysClock :: rest → (s.halted = false ∨ s.opt.osc = .crystal32768) →
        (s.opt.wdtClk ≠ .sysDiv4 ∨ s.tPhase ≠ 3) →
        step s = .next { s with
          env := rest
          tPhase := s.tPhase + 1
          t0 := { s.t0 with
            cnt := if s.t0.takesClocks ∧ s.t0.tn2 = true ∧ (s.opt.t0Clk = .sys ∨ s.tPhase = 3) then s.t0.cnt + 1
              else s.t0.cnt }
          t1 := { s.t1 with
            cnt := if s.t1.takesClocks ∧
                ((s.t1.tn2 = false ∧ s.opt.t1Clk = .sys) ∨ (s.t1.tn2 = true ∧ s.tPhase = 3)) then s.t1.cnt + 1
              else s.t1.cnt } }) ∧
      (s.env = .sysClock :: rest → (s.halted = false ∨ s.opt.osc = .crystal32768) →
        s.opt.wdtClk = .sysDiv4 → s.tPhase = 3 → (s.opt.wdtEn = false ∨ s.wdtCnt ≠ 0xFFFF) →
        ∃ t, step s = .next t ∧ t.tPhase = 0 ∧
          t.t0 = { s.t0 with
            cnt := if s.t0.takesClocks ∧ (s.t0.tn2 = true ∨ 2 ^ (8 + s.rt.toNat) ≤ s.rtcCnt.toNat + 1)
              then s.t0.cnt + 1 else s.t0.cnt } ∧
          t.t1 = { s.t1 with
            cnt := if s.t1.takesClocks ∧ (s.t1.tn2 = true ∨ s.opt.t1Clk = .sys ∨
                (s.opt.t1Clk = .tbOvf ∧ 2 ^ s.opt.tbDiv ≤ s.tbCnt.toNat + 1))
              then s.t1.cnt + 1 else s.t1.cnt }) ∧
      (s.env = .fsCycle :: rest → s.opt.wdtClk ≠ .sysDiv4 → (s.opt.wdtEn = false ∨ s.wdtCnt ≠ 0xFFFF) →
        ∃ t, step s = .next t ∧
          t.t0 = { s.t0 with
            cnt := if s.t0.takesClocks ∧ s.t0.tn2 = false ∧ 2 ^ (8 + s.rt.toNat) ≤ s.rtcCnt.toNat + 1
              then s.t0.cnt + 1 else s.t0.cnt } ∧
          t.t1 = { s.t1 with
            cnt := if s.t1.takesClocks ∧ s.t1.tn2 = false ∧ s.opt.t1Clk = .tbOvf ∧
                2 ^ s.opt.tbDiv ≤ s.tbCnt.toNat + 1
              then s.t1.cnt + 1 else s.t1.cnt }))

end Statements
end

