-- ==== Sys2Proof/Laws/Memory.lean ====
section
/-! SUPPORT. The laws of the memories: a read after a write, and the canonical form kept by every write. -/

namespace Sys2Proof.Machine

variable {α : Type}

@[simp] theorem Memory.read_write_same (m : List (Nat × α)) (a : Nat) (v : α) :
    Memory.read (Memory.write m a v) a = some v := by
  induction m with
  | nil => simp [Memory.write, Memory.read]
  | cons p t ih =>
    obtain ⟨b, w⟩ := p
    simp only [Memory.write]
    split
    · simp [Memory.read]
    · split
      · simp [Memory.read]
      · next _ h => simp [Memory.read, Ne.symm h, ih]

theorem Memory.read_write_other (m : List (Nat × α)) (a b : Nat) (v : α) (hab : b ≠ a) :
    Memory.read (Memory.write m a v) b = Memory.read m b := by
  induction m with
  | nil => simp [Memory.write, Memory.read, Ne.symm hab]
  | cons p t ih =>
    obtain ⟨c, w⟩ := p
    simp only [Memory.write]
    split
    · simp [Memory.read, Ne.symm hab]
    · split
      · next _ h => subst h; simp [Memory.read, Ne.symm hab]
      · simp [Memory.read, ih]

/-- The canonical form does not ask less of a lower bound. -/
theorem Memory.wf_mono {lo lo' hi : Nat} (h : lo ≤ lo') {m : List (Nat × α)}
    (hm : Memory.wf lo' hi m = true) : Memory.wf lo hi m = true := by
  cases m with
  | nil => rfl
  | cons p t =>
    simp only [Memory.wf, Bool.and_eq_true, decide_eq_true_eq] at hm ⊢
    exact ⟨⟨by omega, hm.1.2⟩, hm.2⟩

/-- A write in range keeps the canonical form. -/
theorem Memory.write_wf {lo hi : Nat} {m : List (Nat × α)} {a : Nat} {v : α}
    (hm : Memory.wf lo hi m = true) (hlo : lo ≤ a) (hhi : a ≤ hi) :
    Memory.wf lo hi (Memory.write m a v) = true := by
  induction m generalizing lo with
  | nil => simp [Memory.write, Memory.wf, hlo, hhi]
  | cons p t ih =>
    obtain ⟨b, w⟩ := p
    simp only [Memory.wf, Bool.and_eq_true, decide_eq_true_eq] at hm
    simp only [Memory.write]
    split
    · simp only [Memory.wf, Bool.and_eq_true, decide_eq_true_eq]
      exact ⟨⟨hlo, hhi⟩, ⟨by omega, hm.1.2⟩, hm.2⟩
    · split
      · next h => subst h; simp only [Memory.wf, Bool.and_eq_true, decide_eq_true_eq]; exact hm
      · simp only [Memory.wf, Bool.and_eq_true, decide_eq_true_eq]
        exact ⟨hm.1, ih hm.2 (by omega)⟩

end Sys2Proof.Machine
end

