-- ==== Sys2Proof/Laws/State.lean ====
section
/-! SUPPORT. One lemma per field per named update of State, true by definition: no later proof unfolds a record
update. -/

namespace Sys2Proof.Machine

@[simp] theorem fetched_pc (s : State) : (fetched s).pc = s.pc + 1 := rfl
@[simp] theorem fetched_stk (s : State) : (fetched s).stk = s.stk := rfl
@[simp] theorem fetched_acc (s : State) : (fetched s).acc = s.acc := rfl
@[simp] theorem fetched_mp0 (s : State) : (fetched s).mp0 = s.mp0 := rfl
@[simp] theorem fetched_mp1 (s : State) : (fetched s).mp1 = s.mp1 := rfl
@[simp] theorem fetched_bp (s : State) : (fetched s).bp = s.bp := rfl
@[simp] theorem fetched_tblp (s : State) : (fetched s).tblp = s.tblp := rfl
@[simp] theorem fetched_tblh (s : State) : (fetched s).tblh = s.tblh := rfl
@[simp] theorem fetched_flags (s : State) : (fetched s).flags = s.flags := rfl
@[simp] theorem fetched_pdf (s : State) : (fetched s).pdf = s.pdf := rfl
@[simp] theorem fetched_tof (s : State) : (fetched s).tof = s.tof := rfl
@[simp] theorem fetched_halted (s : State) : (fetched s).halted = s.halted := rfl
@[simp] theorem fetched_emi (s : State) : (fetched s).emi = s.emi := rfl
@[simp] theorem fetched_en (s : State) : (fetched s).en = s.en := rfl
@[simp] theorem fetched_req (s : State) : (fetched s).req = s.req := rfl
@[simp] theorem fetched_rt (s : State) : (fetched s).rt = s.rt := rfl
@[simp] theorem fetched_lvdc (s : State) : (fetched s).lvdc = s.lvdc := rfl
@[simp] theorem fetched_qosc (s : State) : (fetched s).qosc = s.qosc := rfl
@[simp] theorem fetched_t0 (s : State) : (fetched s).t0 = s.t0 := rfl
@[simp] theorem fetched_t1 (s : State) : (fetched s).t1 = s.t1 := rfl
@[simp] theorem fetched_pfdFF (s : State) : (fetched s).pfdFF = s.pfdFF := rfl
@[simp] theorem fetched_wdtCnt (s : State) : (fetched s).wdtCnt = s.wdtCnt := rfl
@[simp] theorem fetched_tbCnt (s : State) : (fetched s).tbCnt = s.tbCnt := rfl
@[simp] theorem fetched_rtcCnt (s : State) : (fetched s).rtcCnt = s.rtcCnt := rfl
@[simp] theorem fetched_bzCnt (s : State) : (fetched s).bzCnt = s.bzCnt := rfl
@[simp] theorem fetched_wdt1Done (s : State) : (fetched s).wdt1Done = s.wdt1Done := rfl
@[simp] theorem fetched_wdt2Done (s : State) : (fetched s).wdt2Done = s.wdt2Done := rfl
@[simp] theorem fetched_tPhase (s : State) : (fetched s).tPhase = s.tPhase := rfl
@[simp] theorem fetched_paLatch (s : State) : (fetched s).paLatch = s.paLatch := rfl
@[simp] theorem fetched_pcLatch (s : State) : (fetched s).pcLatch = s.pcLatch := rfl
@[simp] theorem fetched_ram (s : State) : (fetched s).ram = s.ram := rfl
@[simp] theorem fetched_lcd (s : State) : (fetched s).lcd = s.lcd := rfl
@[simp] theorem fetched_pm (s : State) : (fetched s).pm = s.pm := rfl
@[simp] theorem fetched_paDriven (s : State) : (fetched s).paDriven = s.paDriven := rfl
@[simp] theorem fetched_paLevel (s : State) : (fetched s).paLevel = s.paLevel := rfl
@[simp] theorem fetched_pb (s : State) : (fetched s).pb = s.pb := rfl
@[simp] theorem fetched_pcDriven (s : State) : (fetched s).pcDriven = s.pcDriven := rfl
@[simp] theorem fetched_pcLevel (s : State) : (fetched s).pcLevel = s.pcLevel := rfl
@[simp] theorem fetched_vddLow (s : State) : (fetched s).vddLow = s.vddLow := rfl
@[simp] theorem fetched_env (s : State) : (fetched s).env = s.env := rfl
@[simp] theorem fetched_opt (s : State) : (fetched s).opt = s.opt := rfl
@[simp] theorem fetched_draws (s : State) : (fetched s).draws = s.draws := rfl
@[simp] theorem fetched_cycles (s : State) : (fetched s).cycles = s.cycles + 1 := rfl

@[simp] theorem dummyCycle_pc (s : State) : (s.dummyCycle).pc = s.pc := rfl
@[simp] theorem dummyCycle_stk (s : State) : (s.dummyCycle).stk = s.stk := rfl
@[simp] theorem dummyCycle_acc (s : State) : (s.dummyCycle).acc = s.acc := rfl
@[simp] theorem dummyCycle_mp0 (s : State) : (s.dummyCycle).mp0 = s.mp0 := rfl
@[simp] theorem dummyCycle_mp1 (s : State) : (s.dummyCycle).mp1 = s.mp1 := rfl
@[simp] theorem dummyCycle_bp (s : State) : (s.dummyCycle).bp = s.bp := rfl
@[simp] theorem dummyCycle_tblp (s : State) : (s.dummyCycle).tblp = s.tblp := rfl
@[simp] theorem dummyCycle_tblh (s : State) : (s.dummyCycle).tblh = s.tblh := rfl
@[simp] theorem dummyCycle_flags (s : State) : (s.dummyCycle).flags = s.flags := rfl
@[simp] theorem dummyCycle_pdf (s : State) : (s.dummyCycle).pdf = s.pdf := rfl
@[simp] theorem dummyCycle_tof (s : State) : (s.dummyCycle).tof = s.tof := rfl
@[simp] theorem dummyCycle_halted (s : State) : (s.dummyCycle).halted = s.halted := rfl
@[simp] theorem dummyCycle_emi (s : State) : (s.dummyCycle).emi = s.emi := rfl
@[simp] theorem dummyCycle_en (s : State) : (s.dummyCycle).en = s.en := rfl
@[simp] theorem dummyCycle_req (s : State) : (s.dummyCycle).req = s.req := rfl
@[simp] theorem dummyCycle_rt (s : State) : (s.dummyCycle).rt = s.rt := rfl
@[simp] theorem dummyCycle_lvdc (s : State) : (s.dummyCycle).lvdc = s.lvdc := rfl
@[simp] theorem dummyCycle_qosc (s : State) : (s.dummyCycle).qosc = s.qosc := rfl
@[simp] theorem dummyCycle_t0 (s : State) : (s.dummyCycle).t0 = s.t0 := rfl
@[simp] theorem dummyCycle_t1 (s : State) : (s.dummyCycle).t1 = s.t1 := rfl
@[simp] theorem dummyCycle_pfdFF (s : State) : (s.dummyCycle).pfdFF = s.pfdFF := rfl
@[simp] theorem dummyCycle_wdtCnt (s : State) : (s.dummyCycle).wdtCnt = s.wdtCnt := rfl
@[simp] theorem dummyCycle_tbCnt (s : State) : (s.dummyCycle).tbCnt = s.tbCnt := rfl
@[simp] theorem dummyCycle_rtcCnt (s : State) : (s.dummyCycle).rtcCnt = s.rtcCnt := rfl
@[simp] theorem dummyCycle_bzCnt (s : State) : (s.dummyCycle).bzCnt = s.bzCnt := rfl
@[simp] theorem dummyCycle_wdt1Done (s : State) : (s.dummyCycle).wdt1Done = s.wdt1Done := rfl
@[simp] theorem dummyCycle_wdt2Done (s : State) : (s.dummyCycle).wdt2Done = s.wdt2Done := rfl
@[simp] theorem dummyCycle_tPhase (s : State) : (s.dummyCycle).tPhase = s.tPhase := rfl
@[simp] theorem dummyCycle_paLatch (s : State) : (s.dummyCycle).paLatch = s.paLatch := rfl
@[simp] theorem dummyCycle_pcLatch (s : State) : (s.dummyCycle).pcLatch = s.pcLatch := rfl
@[simp] theorem dummyCycle_ram (s : State) : (s.dummyCycle).ram = s.ram := rfl
@[simp] theorem dummyCycle_lcd (s : State) : (s.dummyCycle).lcd = s.lcd := rfl
@[simp] theorem dummyCycle_pm (s : State) : (s.dummyCycle).pm = s.pm := rfl
@[simp] theorem dummyCycle_paDriven (s : State) : (s.dummyCycle).paDriven = s.paDriven := rfl
@[simp] theorem dummyCycle_paLevel (s : State) : (s.dummyCycle).paLevel = s.paLevel := rfl
@[simp] theorem dummyCycle_pb (s : State) : (s.dummyCycle).pb = s.pb := rfl
@[simp] theorem dummyCycle_pcDriven (s : State) : (s.dummyCycle).pcDriven = s.pcDriven := rfl
@[simp] theorem dummyCycle_pcLevel (s : State) : (s.dummyCycle).pcLevel = s.pcLevel := rfl
@[simp] theorem dummyCycle_vddLow (s : State) : (s.dummyCycle).vddLow = s.vddLow := rfl
@[simp] theorem dummyCycle_env (s : State) : (s.dummyCycle).env = s.env := rfl
@[simp] theorem dummyCycle_opt (s : State) : (s.dummyCycle).opt = s.opt := rfl
@[simp] theorem dummyCycle_draws (s : State) : (s.dummyCycle).draws = s.draws := rfl
@[simp] theorem dummyCycle_cycles (s : State) : (s.dummyCycle).cycles = s.cycles + 1 := rfl

@[simp] theorem settled_pc (s : State) : (settled s).pc = s.pc := rfl
@[simp] theorem settled_stk (s : State) : (settled s).stk = s.stk := rfl
@[simp] theorem settled_acc (s : State) : (settled s).acc = s.acc := rfl
@[simp] theorem settled_mp0 (s : State) : (settled s).mp0 = s.mp0 := rfl
@[simp] theorem settled_mp1 (s : State) : (settled s).mp1 = s.mp1 := rfl
@[simp] theorem settled_bp (s : State) : (settled s).bp = s.bp := rfl
@[simp] theorem settled_tblp (s : State) : (settled s).tblp = s.tblp := rfl
@[simp] theorem settled_tblh (s : State) : (settled s).tblh = s.tblh := rfl
@[simp] theorem settled_flags (s : State) : (settled s).flags = s.flags := rfl
@[simp] theorem settled_pdf (s : State) : (settled s).pdf = s.pdf := rfl
@[simp] theorem settled_tof (s : State) : (settled s).tof = s.tof := rfl
@[simp] theorem settled_halted (s : State) : (settled s).halted = s.halted := rfl
@[simp] theorem settled_emi (s : State) : (settled s).emi = s.emi := rfl
@[simp] theorem settled_en (s : State) : (settled s).en = s.en := rfl
@[simp] theorem settled_req (s : State) : (settled s).req = s.req := rfl
@[simp] theorem settled_rt (s : State) : (settled s).rt = s.rt := rfl
@[simp] theorem settled_lvdc (s : State) : (settled s).lvdc = s.lvdc := rfl
@[simp] theorem settled_qosc (s : State) : (settled s).qosc = s.qosc := rfl
@[simp] theorem settled_pfdFF (s : State) : (settled s).pfdFF = s.pfdFF := rfl
@[simp] theorem settled_wdtCnt (s : State) : (settled s).wdtCnt = s.wdtCnt := rfl
@[simp] theorem settled_tbCnt (s : State) : (settled s).tbCnt = s.tbCnt := rfl
@[simp] theorem settled_rtcCnt (s : State) : (settled s).rtcCnt = s.rtcCnt := rfl
@[simp] theorem settled_bzCnt (s : State) : (settled s).bzCnt = s.bzCnt := rfl
@[simp] theorem settled_wdt1Done (s : State) : (settled s).wdt1Done = s.wdt1Done := rfl
@[simp] theorem settled_wdt2Done (s : State) : (settled s).wdt2Done = s.wdt2Done := rfl
@[simp] theorem settled_tPhase (s : State) : (settled s).tPhase = s.tPhase := rfl
@[simp] theorem settled_paLatch (s : State) : (settled s).paLatch = s.paLatch := rfl
@[simp] theorem settled_pcLatch (s : State) : (settled s).pcLatch = s.pcLatch := rfl
@[simp] theorem settled_ram (s : State) : (settled s).ram = s.ram := rfl
@[simp] theorem settled_lcd (s : State) : (settled s).lcd = s.lcd := rfl
@[simp] theorem settled_pm (s : State) : (settled s).pm = s.pm := rfl
@[simp] theorem settled_paDriven (s : State) : (settled s).paDriven = s.paDriven := rfl
@[simp] theorem settled_paLevel (s : State) : (settled s).paLevel = s.paLevel := rfl
@[simp] theorem settled_pb (s : State) : (settled s).pb = s.pb := rfl
@[simp] theorem settled_pcDriven (s : State) : (settled s).pcDriven = s.pcDriven := rfl
@[simp] theorem settled_pcLevel (s : State) : (settled s).pcLevel = s.pcLevel := rfl
@[simp] theorem settled_vddLow (s : State) : (settled s).vddLow = s.vddLow := rfl
@[simp] theorem settled_env (s : State) : (settled s).env = s.env := rfl
@[simp] theorem settled_opt (s : State) : (settled s).opt = s.opt := rfl
@[simp] theorem settled_draws (s : State) : (settled s).draws = s.draws := rfl
@[simp] theorem settled_cycles (s : State) : (settled s).cycles = s.cycles := rfl

@[simp] theorem pushPc_pc (v : PAddr) (s : State) : (pushPc v s).pc = s.pc := rfl
@[simp] theorem pushPc_stk (v : PAddr) (s : State) : (pushPc v s).stk = v :: s.stk.take 5 := rfl
@[simp] theorem pushPc_acc (v : PAddr) (s : State) : (pushPc v s).acc = s.acc := rfl
@[simp] theorem pushPc_mp0 (v : PAddr) (s : State) : (pushPc v s).mp0 = s.mp0 := rfl
@[simp] theorem pushPc_mp1 (v : PAddr) (s : State) : (pushPc v s).mp1 = s.mp1 := rfl
@[simp] theorem pushPc_bp (v : PAddr) (s : State) : (pushPc v s).bp = s.bp := rfl
@[simp] theorem pushPc_tblp (v : PAddr) (s : State) : (pushPc v s).tblp = s.tblp := rfl
@[simp] theorem pushPc_tblh (v : PAddr) (s : State) : (pushPc v s).tblh = s.tblh := rfl
@[simp] theorem pushPc_flags (v : PAddr) (s : State) : (pushPc v s).flags = s.flags := rfl
@[simp] theorem pushPc_pdf (v : PAddr) (s : State) : (pushPc v s).pdf = s.pdf := rfl
@[simp] theorem pushPc_tof (v : PAddr) (s : State) : (pushPc v s).tof = s.tof := rfl
@[simp] theorem pushPc_halted (v : PAddr) (s : State) : (pushPc v s).halted = s.halted := rfl
@[simp] theorem pushPc_emi (v : PAddr) (s : State) : (pushPc v s).emi = s.emi := rfl
@[simp] theorem pushPc_en (v : PAddr) (s : State) : (pushPc v s).en = s.en := rfl
@[simp] theorem pushPc_req (v : PAddr) (s : State) : (pushPc v s).req = s.req := rfl
@[simp] theorem pushPc_rt (v : PAddr) (s : State) : (pushPc v s).rt = s.rt := rfl
@[simp] theorem pushPc_lvdc (v : PAddr) (s : State) : (pushPc v s).lvdc = s.lvdc := rfl
@[simp] theorem pushPc_qosc (v : PAddr) (s : State) : (pushPc v s).qosc = s.qosc := rfl
@[simp] theorem pushPc_t0 (v : PAddr) (s : State) : (pushPc v s).t0 = s.t0 := rfl
@[simp] theorem pushPc_t1 (v : PAddr) (s : State) : (pushPc v s).t1 = s.t1 := rfl
@[simp] theorem pushPc_pfdFF (v : PAddr) (s : State) : (pushPc v s).pfdFF = s.pfdFF := rfl
@[simp] theorem pushPc_wdtCnt (v : PAddr) (s : State) : (pushPc v s).wdtCnt = s.wdtCnt := rfl
@[simp] theorem pushPc_tbCnt (v : PAddr) (s : State) : (pushPc v s).tbCnt = s.tbCnt := rfl
@[simp] theorem pushPc_rtcCnt (v : PAddr) (s : State) : (pushPc v s).rtcCnt = s.rtcCnt := rfl
@[simp] theorem pushPc_bzCnt (v : PAddr) (s : State) : (pushPc v s).bzCnt = s.bzCnt := rfl
@[simp] theorem pushPc_wdt1Done (v : PAddr) (s : State) : (pushPc v s).wdt1Done = s.wdt1Done := rfl
@[simp] theorem pushPc_wdt2Done (v : PAddr) (s : State) : (pushPc v s).wdt2Done = s.wdt2Done := rfl
@[simp] theorem pushPc_tPhase (v : PAddr) (s : State) : (pushPc v s).tPhase = s.tPhase := rfl
@[simp] theorem pushPc_paLatch (v : PAddr) (s : State) : (pushPc v s).paLatch = s.paLatch := rfl
@[simp] theorem pushPc_pcLatch (v : PAddr) (s : State) : (pushPc v s).pcLatch = s.pcLatch := rfl
@[simp] theorem pushPc_ram (v : PAddr) (s : State) : (pushPc v s).ram = s.ram := rfl
@[simp] theorem pushPc_lcd (v : PAddr) (s : State) : (pushPc v s).lcd = s.lcd := rfl
@[simp] theorem pushPc_pm (v : PAddr) (s : State) : (pushPc v s).pm = s.pm := rfl
@[simp] theorem pushPc_paDriven (v : PAddr) (s : State) : (pushPc v s).paDriven = s.paDriven := rfl
@[simp] theorem pushPc_paLevel (v : PAddr) (s : State) : (pushPc v s).paLevel = s.paLevel := rfl
@[simp] theorem pushPc_pb (v : PAddr) (s : State) : (pushPc v s).pb = s.pb := rfl
@[simp] theorem pushPc_pcDriven (v : PAddr) (s : State) : (pushPc v s).pcDriven = s.pcDriven := rfl
@[simp] theorem pushPc_pcLevel (v : PAddr) (s : State) : (pushPc v s).pcLevel = s.pcLevel := rfl
@[simp] theorem pushPc_vddLow (v : PAddr) (s : State) : (pushPc v s).vddLow = s.vddLow := rfl
@[simp] theorem pushPc_env (v : PAddr) (s : State) : (pushPc v s).env = s.env := rfl
@[simp] theorem pushPc_opt (v : PAddr) (s : State) : (pushPc v s).opt = s.opt := rfl
@[simp] theorem pushPc_draws (v : PAddr) (s : State) : (pushPc v s).draws = s.draws := rfl
@[simp] theorem pushPc_cycles (v : PAddr) (s : State) : (pushPc v s).cycles = s.cycles := rfl

@[simp] theorem setStatus_pc (s : State) (v : Byte) : (s.setStatus v).pc = s.pc := rfl
@[simp] theorem setStatus_stk (s : State) (v : Byte) : (s.setStatus v).stk = s.stk := rfl
@[simp] theorem setStatus_acc (s : State) (v : Byte) : (s.setStatus v).acc = s.acc := rfl
@[simp] theorem setStatus_mp0 (s : State) (v : Byte) : (s.setStatus v).mp0 = s.mp0 := rfl
@[simp] theorem setStatus_mp1 (s : State) (v : Byte) : (s.setStatus v).mp1 = s.mp1 := rfl
@[simp] theorem setStatus_bp (s : State) (v : Byte) : (s.setStatus v).bp = s.bp := rfl
@[simp] theorem setStatus_tblp (s : State) (v : Byte) : (s.setStatus v).tblp = s.tblp := rfl
@[simp] theorem setStatus_tblh (s : State) (v : Byte) : (s.setStatus v).tblh = s.tblh := rfl
@[simp] theorem setStatus_pdf (s : State) (v : Byte) : (s.setStatus v).pdf = s.pdf := rfl
@[simp] theorem setStatus_tof (s : State) (v : Byte) : (s.setStatus v).tof = s.tof := rfl
@[simp] theorem setStatus_halted (s : State) (v : Byte) : (s.setStatus v).halted = s.halted := rfl
@[simp] theorem setStatus_emi (s : State) (v : Byte) : (s.setStatus v).emi = s.emi := rfl
@[simp] theorem setStatus_en (s : State) (v : Byte) : (s.setStatus v).en = s.en := rfl
@[simp] theorem setStatus_req (s : State) (v : Byte) : (s.setStatus v).req = s.req := rfl
@[simp] theorem setStatus_rt (s : State) (v : Byte) : (s.setStatus v).rt = s.rt := rfl
@[simp] theorem setStatus_lvdc (s : State) (v : Byte) : (s.setStatus v).lvdc = s.lvdc := rfl
@[simp] theorem setStatus_qosc (s : State) (v : Byte) : (s.setStatus v).qosc = s.qosc := rfl
@[simp] theorem setStatus_t0 (s : State) (v : Byte) : (s.setStatus v).t0 = s.t0 := rfl
@[simp] theorem setStatus_t1 (s : State) (v : Byte) : (s.setStatus v).t1 = s.t1 := rfl
@[simp] theorem setStatus_pfdFF (s : State) (v : Byte) : (s.setStatus v).pfdFF = s.pfdFF := rfl
@[simp] theorem setStatus_wdtCnt (s : State) (v : Byte) : (s.setStatus v).wdtCnt = s.wdtCnt := rfl
@[simp] theorem setStatus_tbCnt (s : State) (v : Byte) : (s.setStatus v).tbCnt = s.tbCnt := rfl
@[simp] theorem setStatus_rtcCnt (s : State) (v : Byte) : (s.setStatus v).rtcCnt = s.rtcCnt := rfl
@[simp] theorem setStatus_bzCnt (s : State) (v : Byte) : (s.setStatus v).bzCnt = s.bzCnt := rfl
@[simp] theorem setStatus_wdt1Done (s : State) (v : Byte) : (s.setStatus v).wdt1Done = s.wdt1Done := rfl
@[simp] theorem setStatus_wdt2Done (s : State) (v : Byte) : (s.setStatus v).wdt2Done = s.wdt2Done := rfl
@[simp] theorem setStatus_tPhase (s : State) (v : Byte) : (s.setStatus v).tPhase = s.tPhase := rfl
@[simp] theorem setStatus_paLatch (s : State) (v : Byte) : (s.setStatus v).paLatch = s.paLatch := rfl
@[simp] theorem setStatus_pcLatch (s : State) (v : Byte) : (s.setStatus v).pcLatch = s.pcLatch := rfl
@[simp] theorem setStatus_ram (s : State) (v : Byte) : (s.setStatus v).ram = s.ram := rfl
@[simp] theorem setStatus_lcd (s : State) (v : Byte) : (s.setStatus v).lcd = s.lcd := rfl
@[simp] theorem setStatus_pm (s : State) (v : Byte) : (s.setStatus v).pm = s.pm := rfl
@[simp] theorem setStatus_paDriven (s : State) (v : Byte) : (s.setStatus v).paDriven = s.paDriven := rfl
@[simp] theorem setStatus_paLevel (s : State) (v : Byte) : (s.setStatus v).paLevel = s.paLevel := rfl
@[simp] theorem setStatus_pb (s : State) (v : Byte) : (s.setStatus v).pb = s.pb := rfl
@[simp] theorem setStatus_pcDriven (s : State) (v : Byte) : (s.setStatus v).pcDriven = s.pcDriven := rfl
@[simp] theorem setStatus_pcLevel (s : State) (v : Byte) : (s.setStatus v).pcLevel = s.pcLevel := rfl
@[simp] theorem setStatus_vddLow (s : State) (v : Byte) : (s.setStatus v).vddLow = s.vddLow := rfl
@[simp] theorem setStatus_env (s : State) (v : Byte) : (s.setStatus v).env = s.env := rfl
@[simp] theorem setStatus_opt (s : State) (v : Byte) : (s.setStatus v).opt = s.opt := rfl
@[simp] theorem setStatus_draws (s : State) (v : Byte) : (s.setStatus v).draws = s.draws := rfl
@[simp] theorem setStatus_cycles (s : State) (v : Byte) : (s.setStatus v).cycles = s.cycles := rfl

@[simp] theorem setIntc0_pc (s : State) (v : Byte) : (s.setIntc0 v).pc = s.pc := rfl
@[simp] theorem setIntc0_stk (s : State) (v : Byte) : (s.setIntc0 v).stk = s.stk := rfl
@[simp] theorem setIntc0_acc (s : State) (v : Byte) : (s.setIntc0 v).acc = s.acc := rfl
@[simp] theorem setIntc0_mp0 (s : State) (v : Byte) : (s.setIntc0 v).mp0 = s.mp0 := rfl
@[simp] theorem setIntc0_mp1 (s : State) (v : Byte) : (s.setIntc0 v).mp1 = s.mp1 := rfl
@[simp] theorem setIntc0_bp (s : State) (v : Byte) : (s.setIntc0 v).bp = s.bp := rfl
@[simp] theorem setIntc0_tblp (s : State) (v : Byte) : (s.setIntc0 v).tblp = s.tblp := rfl
@[simp] theorem setIntc0_tblh (s : State) (v : Byte) : (s.setIntc0 v).tblh = s.tblh := rfl
@[simp] theorem setIntc0_flags (s : State) (v : Byte) : (s.setIntc0 v).flags = s.flags := rfl
@[simp] theorem setIntc0_pdf (s : State) (v : Byte) : (s.setIntc0 v).pdf = s.pdf := rfl
@[simp] theorem setIntc0_tof (s : State) (v : Byte) : (s.setIntc0 v).tof = s.tof := rfl
@[simp] theorem setIntc0_halted (s : State) (v : Byte) : (s.setIntc0 v).halted = s.halted := rfl
@[simp] theorem setIntc0_emi (s : State) (v : Byte) : (s.setIntc0 v).emi = v.getLsbD 0 := rfl
@[simp] theorem setIntc0_rt (s : State) (v : Byte) : (s.setIntc0 v).rt = s.rt := rfl
@[simp] theorem setIntc0_lvdc (s : State) (v : Byte) : (s.setIntc0 v).lvdc = s.lvdc := rfl
@[simp] theorem setIntc0_qosc (s : State) (v : Byte) : (s.setIntc0 v).qosc = s.qosc := rfl
@[simp] theorem setIntc0_t0 (s : State) (v : Byte) : (s.setIntc0 v).t0 = s.t0 := rfl
@[simp] theorem setIntc0_t1 (s : State) (v : Byte) : (s.setIntc0 v).t1 = s.t1 := rfl
@[simp] theorem setIntc0_pfdFF (s : State) (v : Byte) : (s.setIntc0 v).pfdFF = s.pfdFF := rfl
@[simp] theorem setIntc0_wdtCnt (s : State) (v : Byte) : (s.setIntc0 v).wdtCnt = s.wdtCnt := rfl
@[simp] theorem setIntc0_tbCnt (s : State) (v : Byte) : (s.setIntc0 v).tbCnt = s.tbCnt := rfl
@[simp] theorem setIntc0_rtcCnt (s : State) (v : Byte) : (s.setIntc0 v).rtcCnt = s.rtcCnt := rfl
@[simp] theorem setIntc0_bzCnt (s : State) (v : Byte) : (s.setIntc0 v).bzCnt = s.bzCnt := rfl
@[simp] theorem setIntc0_wdt1Done (s : State) (v : Byte) : (s.setIntc0 v).wdt1Done = s.wdt1Done := rfl
@[simp] theorem setIntc0_wdt2Done (s : State) (v : Byte) : (s.setIntc0 v).wdt2Done = s.wdt2Done := rfl
@[simp] theorem setIntc0_tPhase (s : State) (v : Byte) : (s.setIntc0 v).tPhase = s.tPhase := rfl
@[simp] theorem setIntc0_paLatch (s : State) (v : Byte) : (s.setIntc0 v).paLatch = s.paLatch := rfl
@[simp] theorem setIntc0_pcLatch (s : State) (v : Byte) : (s.setIntc0 v).pcLatch = s.pcLatch := rfl
@[simp] theorem setIntc0_ram (s : State) (v : Byte) : (s.setIntc0 v).ram = s.ram := rfl
@[simp] theorem setIntc0_lcd (s : State) (v : Byte) : (s.setIntc0 v).lcd = s.lcd := rfl
@[simp] theorem setIntc0_pm (s : State) (v : Byte) : (s.setIntc0 v).pm = s.pm := rfl
@[simp] theorem setIntc0_paDriven (s : State) (v : Byte) : (s.setIntc0 v).paDriven = s.paDriven := rfl
@[simp] theorem setIntc0_paLevel (s : State) (v : Byte) : (s.setIntc0 v).paLevel = s.paLevel := rfl
@[simp] theorem setIntc0_pb (s : State) (v : Byte) : (s.setIntc0 v).pb = s.pb := rfl
@[simp] theorem setIntc0_pcDriven (s : State) (v : Byte) : (s.setIntc0 v).pcDriven = s.pcDriven := rfl
@[simp] theorem setIntc0_pcLevel (s : State) (v : Byte) : (s.setIntc0 v).pcLevel = s.pcLevel := rfl
@[simp] theorem setIntc0_vddLow (s : State) (v : Byte) : (s.setIntc0 v).vddLow = s.vddLow := rfl
@[simp] theorem setIntc0_env (s : State) (v : Byte) : (s.setIntc0 v).env = s.env := rfl
@[simp] theorem setIntc0_opt (s : State) (v : Byte) : (s.setIntc0 v).opt = s.opt := rfl
@[simp] theorem setIntc0_draws (s : State) (v : Byte) : (s.setIntc0 v).draws = s.draws := rfl
@[simp] theorem setIntc0_cycles (s : State) (v : Byte) : (s.setIntc0 v).cycles = s.cycles := rfl

@[simp] theorem setIntc1_pc (s : State) (v : Byte) : (s.setIntc1 v).pc = s.pc := rfl
@[simp] theorem setIntc1_stk (s : State) (v : Byte) : (s.setIntc1 v).stk = s.stk := rfl
@[simp] theorem setIntc1_acc (s : State) (v : Byte) : (s.setIntc1 v).acc = s.acc := rfl
@[simp] theorem setIntc1_mp0 (s : State) (v : Byte) : (s.setIntc1 v).mp0 = s.mp0 := rfl
@[simp] theorem setIntc1_mp1 (s : State) (v : Byte) : (s.setIntc1 v).mp1 = s.mp1 := rfl
@[simp] theorem setIntc1_bp (s : State) (v : Byte) : (s.setIntc1 v).bp = s.bp := rfl
@[simp] theorem setIntc1_tblp (s : State) (v : Byte) : (s.setIntc1 v).tblp = s.tblp := rfl
@[simp] theorem setIntc1_tblh (s : State) (v : Byte) : (s.setIntc1 v).tblh = s.tblh := rfl
@[simp] theorem setIntc1_flags (s : State) (v : Byte) : (s.setIntc1 v).flags = s.flags := rfl
@[simp] theorem setIntc1_pdf (s : State) (v : Byte) : (s.setIntc1 v).pdf = s.pdf := rfl
@[simp] theorem setIntc1_tof (s : State) (v : Byte) : (s.setIntc1 v).tof = s.tof := rfl
@[simp] theorem setIntc1_halted (s : State) (v : Byte) : (s.setIntc1 v).halted = s.halted := rfl
@[simp] theorem setIntc1_emi (s : State) (v : Byte) : (s.setIntc1 v).emi = s.emi := rfl
@[simp] theorem setIntc1_rt (s : State) (v : Byte) : (s.setIntc1 v).rt = s.rt := rfl
@[simp] theorem setIntc1_lvdc (s : State) (v : Byte) : (s.setIntc1 v).lvdc = s.lvdc := rfl
@[simp] theorem setIntc1_qosc (s : State) (v : Byte) : (s.setIntc1 v).qosc = s.qosc := rfl
@[simp] theorem setIntc1_t0 (s : State) (v : Byte) : (s.setIntc1 v).t0 = s.t0 := rfl
@[simp] theorem setIntc1_t1 (s : State) (v : Byte) : (s.setIntc1 v).t1 = s.t1 := rfl
@[simp] theorem setIntc1_pfdFF (s : State) (v : Byte) : (s.setIntc1 v).pfdFF = s.pfdFF := rfl
@[simp] theorem setIntc1_wdtCnt (s : State) (v : Byte) : (s.setIntc1 v).wdtCnt = s.wdtCnt := rfl
@[simp] theorem setIntc1_tbCnt (s : State) (v : Byte) : (s.setIntc1 v).tbCnt = s.tbCnt := rfl
@[simp] theorem setIntc1_rtcCnt (s : State) (v : Byte) : (s.setIntc1 v).rtcCnt = s.rtcCnt := rfl
@[simp] theorem setIntc1_bzCnt (s : State) (v : Byte) : (s.setIntc1 v).bzCnt = s.bzCnt := rfl
@[simp] theorem setIntc1_wdt1Done (s : State) (v : Byte) : (s.setIntc1 v).wdt1Done = s.wdt1Done := rfl
@[simp] theorem setIntc1_wdt2Done (s : State) (v : Byte) : (s.setIntc1 v).wdt2Done = s.wdt2Done := rfl
@[simp] theorem setIntc1_tPhase (s : State) (v : Byte) : (s.setIntc1 v).tPhase = s.tPhase := rfl
@[simp] theorem setIntc1_paLatch (s : State) (v : Byte) : (s.setIntc1 v).paLatch = s.paLatch := rfl
@[simp] theorem setIntc1_pcLatch (s : State) (v : Byte) : (s.setIntc1 v).pcLatch = s.pcLatch := rfl
@[simp] theorem setIntc1_ram (s : State) (v : Byte) : (s.setIntc1 v).ram = s.ram := rfl
@[simp] theorem setIntc1_lcd (s : State) (v : Byte) : (s.setIntc1 v).lcd = s.lcd := rfl
@[simp] theorem setIntc1_pm (s : State) (v : Byte) : (s.setIntc1 v).pm = s.pm := rfl
@[simp] theorem setIntc1_paDriven (s : State) (v : Byte) : (s.setIntc1 v).paDriven = s.paDriven := rfl
@[simp] theorem setIntc1_paLevel (s : State) (v : Byte) : (s.setIntc1 v).paLevel = s.paLevel := rfl
@[simp] theorem setIntc1_pb (s : State) (v : Byte) : (s.setIntc1 v).pb = s.pb := rfl
@[simp] theorem setIntc1_pcDriven (s : State) (v : Byte) : (s.setIntc1 v).pcDriven = s.pcDriven := rfl
@[simp] theorem setIntc1_pcLevel (s : State) (v : Byte) : (s.setIntc1 v).pcLevel = s.pcLevel := rfl
@[simp] theorem setIntc1_vddLow (s : State) (v : Byte) : (s.setIntc1 v).vddLow = s.vddLow := rfl
@[simp] theorem setIntc1_env (s : State) (v : Byte) : (s.setIntc1 v).env = s.env := rfl
@[simp] theorem setIntc1_opt (s : State) (v : Byte) : (s.setIntc1 v).opt = s.opt := rfl
@[simp] theorem setIntc1_draws (s : State) (v : Byte) : (s.setIntc1 v).draws = s.draws := rfl
@[simp] theorem setIntc1_cycles (s : State) (v : Byte) : (s.setIntc1 v).cycles = s.cycles := rfl

@[simp] theorem setRtcc_pc (s : State) (v : Byte) : (s.setRtcc v).pc = s.pc := rfl
@[simp] theorem setRtcc_stk (s : State) (v : Byte) : (s.setRtcc v).stk = s.stk := rfl
@[simp] theorem setRtcc_acc (s : State) (v : Byte) : (s.setRtcc v).acc = s.acc := rfl
@[simp] theorem setRtcc_mp0 (s : State) (v : Byte) : (s.setRtcc v).mp0 = s.mp0 := rfl
@[simp] theorem setRtcc_mp1 (s : State) (v : Byte) : (s.setRtcc v).mp1 = s.mp1 := rfl
@[simp] theorem setRtcc_bp (s : State) (v : Byte) : (s.setRtcc v).bp = s.bp := rfl
@[simp] theorem setRtcc_tblp (s : State) (v : Byte) : (s.setRtcc v).tblp = s.tblp := rfl
@[simp] theorem setRtcc_tblh (s : State) (v : Byte) : (s.setRtcc v).tblh = s.tblh := rfl
@[simp] theorem setRtcc_flags (s : State) (v : Byte) : (s.setRtcc v).flags = s.flags := rfl
@[simp] theorem setRtcc_pdf (s : State) (v : Byte) : (s.setRtcc v).pdf = s.pdf := rfl
@[simp] theorem setRtcc_tof (s : State) (v : Byte) : (s.setRtcc v).tof = s.tof := rfl
@[simp] theorem setRtcc_halted (s : State) (v : Byte) : (s.setRtcc v).halted = s.halted := rfl
@[simp] theorem setRtcc_emi (s : State) (v : Byte) : (s.setRtcc v).emi = s.emi := rfl
@[simp] theorem setRtcc_en (s : State) (v : Byte) : (s.setRtcc v).en = s.en := rfl
@[simp] theorem setRtcc_req (s : State) (v : Byte) : (s.setRtcc v).req = s.req := rfl
@[simp] theorem setRtcc_rt (s : State) (v : Byte) : (s.setRtcc v).rt = v.extractLsb' 0 3 := rfl
@[simp] theorem setRtcc_lvdc (s : State) (v : Byte) : (s.setRtcc v).lvdc = v.getLsbD 3 := rfl
@[simp] theorem setRtcc_qosc (s : State) (v : Byte) : (s.setRtcc v).qosc = v.getLsbD 4 := rfl
@[simp] theorem setRtcc_t0 (s : State) (v : Byte) : (s.setRtcc v).t0 = s.t0 := rfl
@[simp] theorem setRtcc_t1 (s : State) (v : Byte) : (s.setRtcc v).t1 = s.t1 := rfl
@[simp] theorem setRtcc_pfdFF (s : State) (v : Byte) : (s.setRtcc v).pfdFF = s.pfdFF := rfl
@[simp] theorem setRtcc_wdtCnt (s : State) (v : Byte) : (s.setRtcc v).wdtCnt = s.wdtCnt := rfl
@[simp] theorem setRtcc_tbCnt (s : State) (v : Byte) : (s.setRtcc v).tbCnt = s.tbCnt := rfl
@[simp] theorem setRtcc_rtcCnt (s : State) (v : Byte) : (s.setRtcc v).rtcCnt = Config.drawPhase s.draws := rfl
@[simp] theorem setRtcc_bzCnt (s : State) (v : Byte) : (s.setRtcc v).bzCnt = s.bzCnt := rfl
@[simp] theorem setRtcc_wdt1Done (s : State) (v : Byte) : (s.setRtcc v).wdt1Done = s.wdt1Done := rfl
@[simp] theorem setRtcc_wdt2Done (s : State) (v : Byte) : (s.setRtcc v).wdt2Done = s.wdt2Done := rfl
@[simp] theorem setRtcc_tPhase (s : State) (v : Byte) : (s.setRtcc v).tPhase = s.tPhase := rfl
@[simp] theorem setRtcc_paLatch (s : State) (v : Byte) : (s.setRtcc v).paLatch = s.paLatch := rfl
@[simp] theorem setRtcc_pcLatch (s : State) (v : Byte) : (s.setRtcc v).pcLatch = s.pcLatch := rfl
@[simp] theorem setRtcc_ram (s : State) (v : Byte) : (s.setRtcc v).ram = s.ram := rfl
@[simp] theorem setRtcc_lcd (s : State) (v : Byte) : (s.setRtcc v).lcd = s.lcd := rfl
@[simp] theorem setRtcc_pm (s : State) (v : Byte) : (s.setRtcc v).pm = s.pm := rfl
@[simp] theorem setRtcc_paDriven (s : State) (v : Byte) : (s.setRtcc v).paDriven = s.paDriven := rfl
@[simp] theorem setRtcc_paLevel (s : State) (v : Byte) : (s.setRtcc v).paLevel = s.paLevel := rfl
@[simp] theorem setRtcc_pb (s : State) (v : Byte) : (s.setRtcc v).pb = s.pb := rfl
@[simp] theorem setRtcc_pcDriven (s : State) (v : Byte) : (s.setRtcc v).pcDriven = s.pcDriven := rfl
@[simp] theorem setRtcc_pcLevel (s : State) (v : Byte) : (s.setRtcc v).pcLevel = s.pcLevel := rfl
@[simp] theorem setRtcc_vddLow (s : State) (v : Byte) : (s.setRtcc v).vddLow = s.vddLow := rfl
@[simp] theorem setRtcc_env (s : State) (v : Byte) : (s.setRtcc v).env = s.env := rfl
@[simp] theorem setRtcc_opt (s : State) (v : Byte) : (s.setRtcc v).opt = s.opt := rfl
@[simp] theorem setRtcc_draws (s : State) (v : Byte) : (s.setRtcc v).draws = s.draws + 1 := rfl
@[simp] theorem setRtcc_cycles (s : State) (v : Byte) : (s.setRtcc v).cycles = s.cycles := rfl

@[simp] theorem clearWdt_pc (s : State) : (clearWdt s).pc = s.pc := rfl
@[simp] theorem clearWdt_stk (s : State) : (clearWdt s).stk = s.stk := rfl
@[simp] theorem clearWdt_acc (s : State) : (clearWdt s).acc = s.acc := rfl
@[simp] theorem clearWdt_mp0 (s : State) : (clearWdt s).mp0 = s.mp0 := rfl
@[simp] theorem clearWdt_mp1 (s : State) : (clearWdt s).mp1 = s.mp1 := rfl
@[simp] theorem clearWdt_bp (s : State) : (clearWdt s).bp = s.bp := rfl
@[simp] theorem clearWdt_tblp (s : State) : (clearWdt s).tblp = s.tblp := rfl
@[simp] theorem clearWdt_tblh (s : State) : (clearWdt s).tblh = s.tblh := rfl
@[simp] theorem clearWdt_flags (s : State) : (clearWdt s).flags = s.flags := rfl
@[simp] theorem clearWdt_pdf (s : State) : (clearWdt s).pdf = false := rfl
@[simp] theorem clearWdt_tof (s : State) : (clearWdt s).tof = false := rfl
@[simp] theorem clearWdt_halted (s : State) : (clearWdt s).halted = s.halted := rfl
@[simp] theorem clearWdt_emi (s : State) : (clearWdt s).emi = s.emi := rfl
@[simp] theorem clearWdt_en (s : State) : (clearWdt s).en = s.en := rfl
@[simp] theorem clearWdt_req (s : State) : (clearWdt s).req = s.req := rfl
@[simp] theorem clearWdt_rt (s : State) : (clearWdt s).rt = s.rt := rfl
@[simp] theorem clearWdt_lvdc (s : State) : (clearWdt s).lvdc = s.lvdc := rfl
@[simp] theorem clearWdt_qosc (s : State) : (clearWdt s).qosc = s.qosc := rfl
@[simp] theorem clearWdt_t0 (s : State) : (clearWdt s).t0 = s.t0 := rfl
@[simp] theorem clearWdt_t1 (s : State) : (clearWdt s).t1 = s.t1 := rfl
@[simp] theorem clearWdt_pfdFF (s : State) : (clearWdt s).pfdFF = s.pfdFF := rfl
@[simp] theorem clearWdt_wdtCnt (s : State) : (clearWdt s).wdtCnt = 0 := rfl
@[simp] theorem clearWdt_wdt1Done (s : State) : (clearWdt s).wdt1Done = s.wdt1Done := rfl
@[simp] theorem clearWdt_wdt2Done (s : State) : (clearWdt s).wdt2Done = s.wdt2Done := rfl
@[simp] theorem clearWdt_tPhase (s : State) : (clearWdt s).tPhase = s.tPhase := rfl
@[simp] theorem clearWdt_paLatch (s : State) : (clearWdt s).paLatch = s.paLatch := rfl
@[simp] theorem clearWdt_pcLatch (s : State) : (clearWdt s).pcLatch = s.pcLatch := rfl
@[simp] theorem clearWdt_ram (s : State) : (clearWdt s).ram = s.ram := rfl
@[simp] theorem clearWdt_lcd (s : State) : (clearWdt s).lcd = s.lcd := rfl
@[simp] theorem clearWdt_pm (s : State) : (clearWdt s).pm = s.pm := rfl
@[simp] theorem clearWdt_paDriven (s : State) : (clearWdt s).paDriven = s.paDriven := rfl
@[simp] theorem clearWdt_paLevel (s : State) : (clearWdt s).paLevel = s.paLevel := rfl
@[simp] theorem clearWdt_pb (s : State) : (clearWdt s).pb = s.pb := rfl
@[simp] theorem clearWdt_pcDriven (s : State) : (clearWdt s).pcDriven = s.pcDriven := rfl
@[simp] theorem clearWdt_pcLevel (s : State) : (clearWdt s).pcLevel = s.pcLevel := rfl
@[simp] theorem clearWdt_vddLow (s : State) : (clearWdt s).vddLow = s.vddLow := rfl
@[simp] theorem clearWdt_env (s : State) : (clearWdt s).env = s.env := rfl
@[simp] theorem clearWdt_opt (s : State) : (clearWdt s).opt = s.opt := rfl
@[simp] theorem clearWdt_draws (s : State) : (clearWdt s).draws = s.draws + 3 := rfl
@[simp] theorem clearWdt_cycles (s : State) : (clearWdt s).cycles = s.cycles := rfl

@[simp] theorem settled_t0 (s : State) : (settled s).t0 = { s.t0 with blk := false } := rfl
@[simp] theorem settled_t1 (s : State) : (settled s).t1 = { s.t1 with blk := false } := rfl
@[simp] theorem setStatus_flags (s : State) (v : Byte) :
    (s.setStatus v).flags = ⟨v.getLsbD 0, v.getLsbD 1, v.getLsbD 2, v.getLsbD 3⟩ := rfl

@[simp] theorem skipIf_false (s : State) : skipIf false s = s := rfl
@[simp] theorem skipIf_true (s : State) :
    skipIf true s = { s with pc := s.pc + 1, cycles := s.cycles + 1 } := rfl

@[simp] theorem SourceBits.get_put_same (b : SourceBits) (v : Bool) (src : Source) :
    (b.put v src).get src = v := by
  cases src <;> rfl

theorem SourceBits.get_put_other (b : SourceBits) (v : Bool) (src src' : Source) (h : src' ≠ src) :
    (b.put v src).get src' = b.get src' := by
  cases src <;> cases src' <;> first | rfl | exact absurd rfl h

end Sys2Proof.Machine
end

