-- ==== Sys2Proof/Laws/Ops.lean ====
section
/-! SUPPORT. What each shared operation can do, said once: if it answers, then one of these cases holds. -/

namespace Sys2Proof.Machine

/-- An outcome is a next state exactly when the operations answered it. -/
@[simp] theorem outcome_next (r : Res State) (t : State) : outcome r = .next t ↔ r = .ok t := by
  rcases r with (e | e) | s <;> simp [outcome]

/-- What `resolve` answers (R84). -/
theorem resolve_cases {m : Byte} {s : State} {l : Loc} (h : resolve m s = .ok l) :
    (m = 0 ∧ l = pointee s.mp0) ∨ (m = 2 ∧ s.bp = false ∧ l = pointee s.mp1) ∨
    (m = 2 ∧ s.bp = true ∧ 0x40 ≤ s.mp1.toNat ∧ s.mp1.toNat ≤ 0x60 ∧ l = .lcd s.mp1) ∨
    (m ≠ 0 ∧ m ≠ 2 ∧ l = .data m) := by
  unfold resolve at h
  split at h
  · exact .inl ⟨‹_›, (Except.ok.inj h).symm⟩
  · split at h
    · split at h
      · split at h
        · next hr => exact .inr (.inr (.inl ⟨‹_›, ‹_›, hr.1, hr.2, (Except.ok.inj h).symm⟩))
        · cases h
      · next hb => exact .inr (.inl ⟨‹_›, by simpa using hb, (Except.ok.inj h).symm⟩)
    · exact .inr (.inr (.inr ⟨‹_›, ‹_›, (Except.ok.inj h).symm⟩))

/-- An LCD location `resolve` answers lies in 40H..60H (R87). -/
theorem resolve_lcd_range {m : Byte} {s : State} {a : Byte} (h : resolve m s = .ok (.lcd a)) :
    0x40 ≤ a.toNat ∧ a.toNat ≤ 0x60 := by
  rcases resolve_cases h with ⟨-, h'⟩ | ⟨-, -, h'⟩ | ⟨-, -, h1, h2, h'⟩ | ⟨-, -, h'⟩
  · unfold pointee at h'; split at h' <;> cases h'
  · unfold pointee at h'; split at h' <;> cases h'
  · cases h'; exact ⟨h1, h2⟩
  · cases h'

/-- `resolve` looks at the two pointers and BP only. -/
theorem resolve_congr {m : Byte} {s t : State} (h0 : t.mp0 = s.mp0) (h1 : t.mp1 = s.mp1) (hb : t.bp = s.bp) :
    resolve m t = resolve m s := by
  simp only [resolve, h0, h1, hb]

@[simp] theorem resolve_fetched (m : Byte) (s : State) : resolve m (fetched s) = resolve m s := rfl

/-- The side effect of a read: the two lost-count bits and the number of draws, nothing else (R90, R107). -/
def ReadEffect (s s' : State) : Prop :=
  ∃ (b0 b1 : Bool) (d : Nat),
    s' = { s with t0 := { s.t0 with blk := b0 }, t1 := { s.t1 with blk := b1 }, draws := d }

theorem ReadEffect.refl (s : State) : ReadEffect s s := ⟨s.t0.blk, s.t1.blk, s.draws, rfl⟩

/-- What a read of a special-function register changes. -/
theorem readSfr_effect (a : Nat) (s : State) : ReadEffect s (readSfr a s).2 := by
  unfold readSfr
  split <;> first
    | exact ReadEffect.refl s
    | exact ⟨_, s.t1.blk, _, rfl⟩
    | exact ⟨s.t0.blk, _, _, rfl⟩

/-- What a read changes (R90). -/
theorem readLoc_effect {l : Loc} {s s' : State} {v : Byte} (h : readLoc l s = .ok (v, s')) :
    ReadEffect s s' := by
  cases l with
  | null => cases h; exact ReadEffect.refl s
  | lcd a =>
    simp only [readLoc] at h
    split at h
    · cases h; exact ⟨s.t0.blk, s.t1.blk, _, rfl⟩
    · cases h
  | data a =>
    simp only [readLoc] at h
    split at h
    · have h' := Except.ok.inj h
      have := readSfr_effect a.toNat s
      rw [h'] at this
      exact this
    · split at h
      · cases h
      · split at h
        · cases h; exact ReadEffect.refl s
        · cases h

/-- What `MemRead` answers: it resolves and reads. -/
theorem memRead_cases {m : Byte} {s s' : State} {v : Byte} (h : memRead m s = .ok (v, s')) :
    ∃ l, resolve m s = .ok l ∧ readLoc l s = .ok (v, s') := by
  unfold memRead at h
  split at h
  · exact ⟨_, ‹_›, h⟩
  · cases h

theorem memRead_effect {m : Byte} {s s' : State} {v : Byte} (h : memRead m s = .ok (v, s')) :
    ReadEffect s s' := by
  obtain ⟨l, -, hl⟩ := memRead_cases h
  exact readLoc_effect hl

/-- What a write of a special-function register can do (R91): one case for each address that stores. -/
theorem writeSfr_cases {a : Nat} {v : Byte} {s s' : State} (h : writeSfr a v s = .ok s') :
    s' = s ∨ (a = 0x01 ∧ s' = { s with mp0 := v }) ∨ (a = 0x03 ∧ s' = { s with mp1 := v }) ∨
    (a = 0x04 ∧ s' = { s with bp := v.getLsbD 0 }) ∨ (a = 0x05 ∧ s' = { s with acc := v }) ∨
    (a = 0x06 ∧ s' = { s with pc := s.pc.extractLsb' 8 4 ++ v }) ∨ (a = 0x07 ∧ s' = { s with tblp := v }) ∨
    (a = 0x09 ∧ s' = s.setRtcc v) ∨ (a = 0x0A ∧ s' = s.setStatus v) ∨ (a = 0x0B ∧ s' = s.setIntc0 v) ∨
    (a = 0x0D ∧ s' = { s with t0 := s.t0.load v }) ∨
    (a = 0x0E ∧ badControl v = false ∧ s' = { s with t0 := s.t0.setControl v }) ∨
    (a = 0x10 ∧ s' = { s with t1 := s.t1.load v }) ∨
    (a = 0x11 ∧ badControl v = false ∧ s' = { s with t1 := s.t1.setControl v }) ∨
    (a = 0x12 ∧ s' = { s with paLatch := v }) ∨ (a = 0x16 ∧ s' = { s with pcLatch := v.extractLsb' 0 4 }) ∨
    (a = 0x1E ∧ s' = s.setIntc1 v) := by
  unfold writeSfr at h
  split at h <;> (try split at h) <;> cases h <;> simp_all

/-- What a write can do (R91). -/
theorem writeLoc_cases {l : Loc} {v : Byte} {s s' : State} (h : writeLoc l v s = .ok s') :
    (l = .null ∧ s' = s) ∨
    (∃ a, l = .lcd a ∧ s' = { s with lcd := Memory.write s.lcd a.toNat (v.extractLsb' 0 4) }) ∨
    (∃ a, l = .data a ∧ a.toNat < 0x20 ∧ writeSfr a.toNat v s = .ok s') ∨
    (∃ a, l = .data a ∧ 0x60 ≤ a.toNat ∧ s' = { s with ram := Memory.write s.ram a.toNat v }) := by
  cases l with
  | null => cases h; exact .inl ⟨rfl, rfl⟩
  | lcd a => cases h; exact .inr (.inl ⟨a, rfl, rfl⟩)
  | data a =>
    simp only [writeLoc] at h
    split at h
    · exact .inr (.inr (.inl ⟨a, rfl, ‹_›, h⟩))
    · split at h
      · cases h
      · cases h; exact .inr (.inr (.inr ⟨a, rfl, by omega, rfl⟩))

/-- What an instruction's write can do: the write, and a dummy cycle for PCL (R25). -/
theorem storeLoc_cases {l : Loc} {v : Byte} {s s' : State} (h : storeLoc l v s = .ok s') :
    ∃ s1, writeLoc l v s = .ok s1 ∧ s' = if l = Loc.pcl then s1.dummyCycle else s1 := by
  unfold storeLoc at h
  split at h
  · exact ⟨_, ‹_›, (Except.ok.inj h).symm⟩
  · cases h

theorem memWrite_cases {m v : Byte} {s s' : State} (h : memWrite m v s = .ok s') :
    ∃ l, resolve m s = .ok l ∧ storeLoc l v s = .ok s' := by
  unfold memWrite at h
  split at h
  · exact ⟨_, ‹_›, h⟩
  · cases h

/-- A flag-computing instruction's destination: resolved, and not STATUS (R35). -/
theorem flagDest_cases {m : Byte} {s : State} {l : Loc} (h : flagDest m s = .ok l) :
    resolve m s = .ok l ∧ l ≠ Loc.statusReg := by
  unfold flagDest at h
  split at h
  · split at h
    · cases h
    · cases h; exact ⟨‹_›, ‹_›⟩
  · cases h

/-- What a return's pop answers (R31). -/
theorem popPc_cases {s s' : State} (h : popPc s = .ok s') :
    ∃ a t, s.stk = a :: t ∧ s' = { s with pc := a, stk := t } := by
  unfold popPc at h
  split at h
  · cases h
  · cases h; exact ⟨_, _, ‹_›, rfl⟩

theorem returnFromInterrupt_cases {s s' : State} (h : returnFromInterrupt s = .ok s') :
    ∃ a t, s.stk = a :: t ∧ s' = { s with pc := a, stk := t, emi := true } := by
  unfold returnFromInterrupt at h
  split at h
  · obtain ⟨a, t, h1, h2⟩ := popPc_cases ‹_›
    cases h; exact ⟨a, t, h1, by rw [h2]⟩
  · cases h

/-- `skipIf` moves the program counter and the cycle count only. -/
theorem skipIf_cases (b : Bool) (s : State) :
    skipIf b s = { s with pc := (skipIf b s).pc, cycles := (skipIf b s).cycles } := by
  cases b <;> rfl

end Sys2Proof.Machine
end

