-- ==== Sys2Proof/Laws/Operands.lean ====
section
/-! SUPPORT. What each operand form can do, said once. -/

namespace Sys2Proof.Machine

theorem accFromMem_next {f : AluOp} {m : Byte} {s t : State} (h : accFromMem f m s = .next t) :
    ∃ v s1, memRead m (fetched s) = .ok (v, s1) ∧
      t = { s1 with acc := (f s1.acc s1.flags v).1, flags := (f s1.acc s1.flags v).2 } := by
  unfold accFromMem at h
  rw [outcome_next] at h
  split at h
  · exact ⟨_, _, ‹_›, (Except.ok.inj h).symm⟩
  · cases h

theorem accFromImm_next {f : AluOp} {x : Byte} {s t : State} (h : accFromImm f x s = .next t) :
    t = { fetched s with acc := (f s.acc s.flags x).1, flags := (f s.acc s.flags x).2 } := by
  unfold accFromImm at h
  cases h; rfl

theorem memFromMem_next {f : AluOp} {m : Byte} {s t : State} (h : memFromMem f m s = .next t) :
    ∃ l v s1 s2, resolve m s = .ok l ∧ l ≠ Loc.statusReg ∧ readLoc l (fetched s) = .ok (v, s1) ∧
      storeLoc l (f s1.acc s1.flags v).1 s1 = .ok s2 ∧ t = { s2 with flags := (f s1.acc s1.flags v).2 } := by
  unfold memFromMem at h
  rw [outcome_next] at h
  split at h
  · next hl =>
    obtain ⟨hr, hn⟩ := flagDest_cases hl
    split at h
    · dsimp only at h
      split at h
      · exact ⟨_, _, _, _, hr, hn, ‹_›, ‹_›, (Except.ok.inj h).symm⟩
      · cases h
    · cases h
  · cases h

theorem memUpdate_next {g : Byte → Byte} {m : Byte} {s t : State} (h : memUpdate g m s = .next t) :
    ∃ l v s1, resolve m s = .ok l ∧ readLoc l (fetched s) = .ok (v, s1) ∧ storeLoc l (g v) s1 = .ok t := by
  unfold memUpdate at h
  rw [outcome_next] at h
  split at h
  · split at h
    · exact ⟨_, _, _, ‹_›, ‹_›, h⟩
    · cases h
  · cases h

theorem memStore_next {v m : Byte} {s t : State} (h : memStore v m s = .next t) :
    ∃ l, resolve m s = .ok l ∧ storeLoc l v (fetched s) = .ok t := by
  unfold memStore at h
  rw [outcome_next] at h
  exact memWrite_cases h

theorem testSkip_next {p : Byte → Bool} {m : Byte} {s t : State} (h : testSkip p m s = .next t) :
    ∃ v s1, memRead m (fetched s) = .ok (v, s1) ∧ t = skipIf (p v) s1 := by
  unfold testSkip at h
  rw [outcome_next] at h
  split at h
  · exact ⟨_, _, ‹_›, (Except.ok.inj h).symm⟩
  · cases h

theorem accSkip_next {g : Byte → Byte} {m : Byte} {s t : State} (h : accSkip g m s = .next t) :
    ∃ v s1, memRead m (fetched s) = .ok (v, s1) ∧ t = skipIf (decide (g v = 0)) { s1 with acc := g v } := by
  unfold accSkip at h
  rw [outcome_next] at h
  split at h
  · exact ⟨_, _, ‹_›, (Except.ok.inj h).symm⟩
  · cases h

theorem stepSkip_next {g : Byte → Byte} {m : Byte} {s t : State} (h : stepSkip g m s = .next t) :
    ∃ l v s1 s2, resolve m s = .ok l ∧ readLoc l (fetched s) = .ok (v, s1) ∧ ¬ (l = Loc.pcl ∧ g v = 0) ∧
      storeLoc l (g v) s1 = .ok s2 ∧ t = skipIf (decide (g v = 0)) s2 := by
  unfold stepSkip at h
  rw [outcome_next] at h
  split at h
  · split at h
    · split at h
      · cases h
      · split at h
        · exact ⟨_, _, _, _, ‹_›, ‹_›, ‹_›, ‹_›, (Except.ok.inj h).symm⟩
        · cases h
    · cases h
  · cases h

theorem tableRead_next {a : PAddr} {m : Byte} {s t : State} (h : tableRead a m s = .next t) :
    ∃ l s1, resolve m s = .ok l ∧ writeLoc l ((tableWord a s).extractLsb' 0 8) (fetched s) = .ok s1 ∧
      ((l ≠ Loc.pcl ∧ t = { s1 with tblh := (tableWord a s).extractLsb' 8 7, cycles := s1.cycles + 1 }) ∨
       (l = Loc.pcl ∧ t = { s1 with
          tblh := (tableWord a s).extractLsb' 8 7
          cycles := s1.cycles + 1 + Config.drawCycles s1.draws
          draws := s1.draws + 1 })) := by
  unfold tableRead at h
  rw [outcome_next] at h
  split at h
  · dsimp only at h
    split at h
    · refine ⟨_, _, ‹_›, ‹_›, ?_⟩
      have h' := Except.ok.inj h
      split at h'
      · exact .inr ⟨‹_›, h'.symm⟩
      · exact .inl ⟨‹_›, h'.symm⟩
    · cases h
  · cases h

theorem execDaa_next {m : Byte} {s t : State} (h : execDaa m s = .next t) :
    ∃ l r c s1, resolve m s = .ok l ∧ l ≠ Loc.statusReg ∧ daaAdjust s.acc s.flags = some (r, c) ∧
      storeLoc l r (fetched s) = .ok s1 ∧ t = { s1 with flags := { s.flags with c := c } } := by
  unfold execDaa at h
  rw [outcome_next] at h
  split at h
  · next hl =>
    obtain ⟨hr, hn⟩ := flagDest_cases hl
    split at h
    · split at h
      · exact ⟨_, _, _, _, hr, hn, ‹_›, ‹_›, (Except.ok.inj h).symm⟩
      · cases h
    · cases h
  · cases h

end Sys2Proof.Machine
end

