-- ==== Sys2Proof/Laws/PerInstr.lean ====
section
/-! SUPPORT. The family EncodingRow: the word of every instruction lies in its row of spec/opcode_table.json. -/

namespace Sys2Proof.Laws

/-- The fixed bits and their values, row by row of spec/opcode_table.json (R125). -/
def row : Instr → PWord × PWord
  | .addA _ => (0x7F00, 0x0100)
  | .addM _ => (0x7F00, 0x0200)
  | .addX _ => (0x7F00, 0x3000)
  | .adcA _ => (0x7F00, 0x0300)
  | .adcM _ => (0x7F00, 0x0400)
  | .subX _ => (0x7F00, 0x3100)
  | .subA _ => (0x7F00, 0x0500)
  | .subM _ => (0x7F00, 0x0600)
  | .sbcA _ => (0x7F00, 0x0700)
  | .sbcM _ => (0x7F00, 0x0800)
  | .daa _ => (0x7F00, 0x0900)
  | .andA _ => (0x7F00, 0x0A00)
  | .orA _ => (0x7F00, 0x0B00)
  | .xorA _ => (0x7F00, 0x0C00)
  | .andM _ => (0x7F00, 0x0D00)
  | .orM _ => (0x7F00, 0x0E00)
  | .xorM _ => (0x7F00, 0x0F00)
  | .andX _ => (0x7F00, 0x3200)
  | .orX _ => (0x7F00, 0x3300)
  | .xorX _ => (0x7F00, 0x3400)
  | .cpl _ => (0x7F00, 0x1000)
  | .cplA _ => (0x7F00, 0x1100)
  | .incA _ => (0x7F00, 0x1200)
  | .inc _ => (0x7F00, 0x1300)
  | .decA _ => (0x7F00, 0x1400)
  | .dec _ => (0x7F00, 0x1500)
  | .rrA _ => (0x7F00, 0x1600)
  | .rr _ => (0x7F00, 0x1700)
  | .rrcA _ => (0x7F00, 0x1800)
  | .rrc _ => (0x7F00, 0x1900)
  | .rlA _ => (0x7F00, 0x1A00)
  | .rl _ => (0x7F00, 0x1B00)
  | .rlcA _ => (0x7F00, 0x1C00)
  | .rlc _ => (0x7F00, 0x1D00)
  | .movA _ => (0x7F00, 0x1E00)
  | .movM _ => (0x7F00, 0x1F00)
  | .movX _ => (0x7F00, 0x3500)
  | .clrBit _ _ => (0x7800, 0x6000)
  | .setBit _ _ => (0x7800, 0x6800)
  | .jmp _ => (0x7000, 0x4000)
  | .sz _ => (0x7F00, 0x2000)
  | .szA _ => (0x7F00, 0x2100)
  | .szBit _ _ => (0x7800, 0x7000)
  | .snzBit _ _ => (0x7800, 0x7800)
  | .siz _ => (0x7F00, 0x2200)
  | .sdz _ => (0x7F00, 0x2300)
  | .sizA _ => (0x7F00, 0x2400)
  | .sdzA _ => (0x7F00, 0x2500)
  | .call _ => (0x7000, 0x5000)
  | .ret => (0x7FFF, 0x0001)
  | .retX _ => (0x7F00, 0x3600)
  | .reti => (0x7FFF, 0x0002)
  | .tabrdc _ => (0x7F00, 0x2600)
  | .tabrdl _ => (0x7F00, 0x2700)
  | .nop => (0x7FFF, 0x0000)
  | .clrAll _ => (0x7F00, 0x2800)
  | .setAll _ => (0x7F00, 0x2900)
  | .clrWdt => (0x7FFF, 0x0003)
  | .clrWdt1 => (0x7FFF, 0x0004)
  | .clrWdt2 => (0x7FFF, 0x0005)
  | .swap _ => (0x7F00, 0x2A00)
  | .swapA _ => (0x7F00, 0x2B00)
  | .halt => (0x7FFF, 0x0006)

/-- Outside its operand fields the word of an instruction is its row's match value. -/
def EncodingRow.Statement (i : Instr) : Prop := encode i &&& (row i).1 = (row i).2

/-- A conjunction of concatenations, part by part. -/
theorem append_and_append {n k : Nat} (a c : BitVec n) (b d : BitVec k) :
    (a ++ b) &&& (c ++ d) = (a &&& c) ++ (b &&& d) := by
  ext i hi
  simp only [BitVec.getElem_and, BitVec.getElem_append]
  split <;> rfl

theorem encodeSlot_row (slot : BitVec 6) (lo : Byte) :
    encodeSlot slot lo &&& 0x7F00 = (0#1 ++ slot) ++ 0#8 := by
  have h : (0x7F00 : PWord) = BitVec.allOnes 7 ++ 0#8 := by decide
  rw [encodeSlot, h, append_and_append, BitVec.and_allOnes, BitVec.and_zero]

theorem encodeBit_row (op : BitVec 4) (i : BitVec 3) (m : Byte) :
    encodeBit op i m &&& 0x7800 = (op ++ 0#3) ++ 0#8 := by
  have h : (0x7800 : PWord) = (BitVec.allOnes 4 ++ 0#3) ++ 0#8 := by decide
  rw [encodeBit, h, append_and_append, append_and_append, BitVec.and_allOnes, BitVec.and_zero, BitVec.and_zero]

theorem encodeJump_row (op : BitVec 3) (addr : PAddr) :
    encodeJump op addr &&& 0x7000 = op ++ 0#12 := by
  have h : (0x7000 : PWord) = BitVec.allOnes 3 ++ 0#12 := by decide
  rw [encodeJump, h, append_and_append, BitVec.and_allOnes, BitVec.and_zero]

theorem EncodingRow.addA (m : Byte) : EncodingRow.Statement (.addA m) :=
  (encodeSlot_row _ m).trans rfl
theorem EncodingRow.addM (m : Byte) : EncodingRow.Statement (.addM m) :=
  (encodeSlot_row _ m).trans rfl
theorem EncodingRow.addX (x : Byte) : EncodingRow.Statement (.addX x) :=
  (encodeSlot_row _ x).trans rfl
theorem EncodingRow.adcA (m : Byte) : EncodingRow.Statement (.adcA m) :=
  (encodeSlot_row _ m).trans rfl
theorem EncodingRow.adcM (m : Byte) : EncodingRow.Statement (.adcM m) :=
  (encodeSlot_row _ m).trans rfl
theorem EncodingRow.subX (x : Byte) : EncodingRow.Statement (.subX x) :=
  (encodeSlot_row _ x).trans rfl
theorem EncodingRow.subA (m : Byte) : EncodingRow.Statement (.subA m) :=
  (encodeSlot_row _ m).trans rfl
theorem EncodingRow.subM (m : Byte) : EncodingRow.Statement (.subM m) :=
  (encodeSlot_row _ m).trans rfl
theorem EncodingRow.sbcA (m : Byte) : EncodingRow.Statement (.sbcA m) :=
  (encodeSlot_row _ m).trans rfl
theorem EncodingRow.sbcM (m : Byte) : EncodingRow.Statement (.sbcM m) :=
  (encodeSlot_row _ m).trans rfl
theorem EncodingRow.daa (m : Byte) : EncodingRow.Statement (.daa m) :=
  (encodeSlot_row _ m).trans rfl
theorem EncodingRow.andA (m : Byte) : EncodingRow.Statement (.andA m) :=
  (encodeSlot_row _ m).trans rfl
theorem EncodingRow.orA (m : Byte) : EncodingRow.Statement (.orA m) :=
  (encodeSlot_row _ m).trans rfl
theorem EncodingRow.xorA (m : Byte) : EncodingRow.Statement (.xorA m) :=
  (encodeSlot_row _ m).trans rfl
theorem EncodingRow.andM (m : Byte) : EncodingRow.Statement (.andM m) :=
  (encodeSlot_row _ m).trans rfl
theorem EncodingRow.orM (m : Byte) : EncodingRow.Statement (.orM m) :=
  (encodeSlot_row _ m).trans rfl
theorem EncodingRow.xorM (m : Byte) : EncodingRow.Statement (.xorM m) :=
  (encodeSlot_row _ m).trans rfl
theorem EncodingRow.andX (x : Byte) : EncodingRow.Statement (.andX x) :=
  (encodeSlot_row _ x).trans rfl
theorem EncodingRow.orX (x : Byte) : EncodingRow.Statement (.orX x) :=
  (encodeSlot_row _ x).trans rfl
theorem EncodingRow.xorX (x : Byte) : EncodingRow.Statement (.xorX x) :=
  (encodeSlot_row _ x).trans rfl
theorem EncodingRow.cpl (m : Byte) : EncodingRow.Statement (.cpl m) :=
  (encodeSlot_row _ m).trans rfl
theorem EncodingRow.cplA (m : Byte) : EncodingRow.Statement (.cplA m) :=
  (encodeSlot_row _ m).trans rfl
theorem EncodingRow.incA (m : Byte) : EncodingRow.Statement (.incA m) :=
  (encodeSlot_row _ m).trans rfl
theorem EncodingRow.inc (m : Byte) : EncodingRow.Statement (.inc m) :=
  (encodeSlot_row _ m).trans rfl
theorem EncodingRow.decA (m : Byte) : EncodingRow.Statement (.decA m) :=
  (encodeSlot_row _ m).trans rfl
theorem EncodingRow.dec (m : Byte) : EncodingRow.Statement (.dec m) :=
  (encodeSlot_row _ m).trans rfl
theorem EncodingRow.rrA (m : Byte) : EncodingRow.Statement (.rrA m) :=
  (encodeSlot_row _ m).trans rfl
theorem EncodingRow.rr (m : Byte) : EncodingRow.Statement (.rr m) :=
  (encodeSlot_row _ m).trans rfl
theorem EncodingRow.rrcA (m : Byte) : EncodingRow.Statement (.rrcA m) :=
  (encodeSlot_row _ m).trans rfl
theorem EncodingRow.rrc (m : Byte) : EncodingRow.Statement (.rrc m) :=
  (encodeSlot_row _ m).trans rfl
theorem EncodingRow.rlA (m : Byte) : EncodingRow.Statement (.rlA m) :=
  (encodeSlot_row _ m).trans rfl
theorem EncodingRow.rl (m : Byte) : EncodingRow.Statement (.rl m) :=
  (encodeSlot_row _ m).trans rfl
theorem EncodingRow.rlcA (m : Byte) : EncodingRow.Statement (.rlcA m) :=
  (encodeSlot_row _ m).trans rfl
theorem EncodingRow.rlc (m : Byte) : EncodingRow.Statement (.rlc m) :=
  (encodeSlot_row _ m).trans rfl
theorem EncodingRow.movA (m : Byte) : EncodingRow.Statement (.movA m) :=
  (encodeSlot_row _ m).trans rfl
theorem EncodingRow.movM (m : Byte) : EncodingRow.Statement (.movM m) :=
  (encodeSlot_row _ m).trans rfl
theorem EncodingRow.movX (x : Byte) : EncodingRow.Statement (.movX x) :=
  (encodeSlot_row _ x).trans rfl
theorem EncodingRow.clrBit (m : Byte) (i : BitVec 3) : EncodingRow.Statement (.clrBit m i) :=
  (encodeBit_row _ i m).trans rfl
theorem EncodingRow.setBit (m : Byte) (i : BitVec 3) : EncodingRow.Statement (.setBit m i) :=
  (encodeBit_row _ i m).trans rfl
theorem EncodingRow.jmp (addr : PAddr) : EncodingRow.Statement (.jmp addr) :=
  (encodeJump_row _ addr).trans rfl
theorem EncodingRow.sz (m : Byte) : EncodingRow.Statement (.sz m) :=
  (encodeSlot_row _ m).trans rfl
theorem EncodingRow.szA (m : Byte) : EncodingRow.Statement (.szA m) :=
  (encodeSlot_row _ m).trans rfl
theorem EncodingRow.szBit (m : Byte) (i : BitVec 3) : EncodingRow.Statement (.szBit m i) :=
  (encodeBit_row _ i m).trans rfl
theorem EncodingRow.snzBit (m : Byte) (i : BitVec 3) : EncodingRow.Statement (.snzBit m i) :=
  (encodeBit_row _ i m).trans rfl
theorem EncodingRow.siz (m : Byte) : EncodingRow.Statement (.siz m) :=
  (encodeSlot_row _ m).trans rfl
theorem EncodingRow.sdz (m : Byte) : EncodingRow.Statement (.sdz m) :=
  (encodeSlot_row _ m).trans rfl
theorem EncodingRow.sizA (m : Byte) : EncodingRow.Statement (.sizA m) :=
  (encodeSlot_row _ m).trans rfl
theorem EncodingRow.sdzA (m : Byte) : EncodingRow.Statement (.sdzA m) :=
  (encodeSlot_row _ m).trans rfl
theorem EncodingRow.call (addr : PAddr) : EncodingRow.Statement (.call addr) :=
  (encodeJump_row _ addr).trans rfl
theorem EncodingRow.ret : EncodingRow.Statement .ret :=
  by unfold EncodingRow.Statement; decide
theorem EncodingRow.retX (x : Byte) : EncodingRow.Statement (.retX x) :=
  (encodeSlot_row _ x).trans rfl
theorem EncodingRow.reti : EncodingRow.Statement .reti :=
  by unfold EncodingRow.Statement; decide
theorem EncodingRow.tabrdc (m : Byte) : EncodingRow.Statement (.tabrdc m) :=
  (encodeSlot_row _ m).trans rfl
theorem EncodingRow.tabrdl (m : Byte) : EncodingRow.Statement (.tabrdl m) :=
  (encodeSlot_row _ m).trans rfl
theorem EncodingRow.nop : EncodingRow.Statement .nop :=
  by unfold EncodingRow.Statement; decide
theorem EncodingRow.clrAll (m : Byte) : EncodingRow.Statement (.clrAll m) :=
  (encodeSlot_row _ m).trans rfl
theorem EncodingRow.setAll (m : Byte) : EncodingRow.Statement (.setAll m) :=
  (encodeSlot_row _ m).trans rfl
theorem EncodingRow.clrWdt : EncodingRow.Statement .clrWdt :=
  by unfold EncodingRow.Statement; decide
theorem EncodingRow.clrWdt1 : EncodingRow.Statement .clrWdt1 :=
  by unfold EncodingRow.Statement; decide
theorem EncodingRow.clrWdt2 : EncodingRow.Statement .clrWdt2 :=
  by unfold EncodingRow.Statement; decide
theorem EncodingRow.swap (m : Byte) : EncodingRow.Statement (.swap m) :=
  (encodeSlot_row _ m).trans rfl
theorem EncodingRow.swapA (m : Byte) : EncodingRow.Statement (.swapA m) :=
  (encodeSlot_row _ m).trans rfl
theorem EncodingRow.halt : EncodingRow.Statement .halt :=
  by unfold EncodingRow.Statement; decide

end Sys2Proof.Laws
end

