-- ==== Sys2Proof/Laws/Step.lean ====
section
/-! SUPPORT. What a step can do, said once: one case for the idle core, the interrupt entry, an instruction, and each
event of the script. -/

namespace Sys2Proof.Machine

/-- An instruction that answers: it was fetched and decoded, and its meaning answered. -/
theorem runInstr_next {enc : Encoding} {s t : State} (h : runInstr enc s = .next t) :
    ∃ w i u, fetchWord s = some w ∧ enc w = .ok i ∧ exec i (settled s) = .next u ∧
      t = clocked s.cycles u := by
  unfold runInstr at h
  split at h
  · cases h
  · split at h
    · next w hw _ i hi =>
      cases he : exec i (settled s) with
      | next u =>
        rw [he] at h
        exact ⟨w, i, u, hw, hi, he, by cases h; rfl⟩
      | fault f => rw [he] at h; cases h
      | refused r => rw [he] at h; cases h
    · cases h

/-- What the core can do at an instruction boundary (R310, R311, R320). -/
theorem coreStep_next {enc : Encoding} {s t : State} (h : coreStep enc s = .next t) :
    (s.halted = true ∧ t = s) ∨
    (s.halted = false ∧ ∃ src, s.pending = some src ∧ t = enterInterrupt src s) ∨
    (s.halted = false ∧ s.pending = none ∧ runInstr enc s = .next t) := by
  unfold coreStep at h
  split at h
  · cases h; exact .inl ⟨‹_›, rfl⟩
  · next hh =>
    split at h
    · cases h; exact .inr (.inl ⟨by simpa using hh, _, ‹_›, rfl⟩)
    · exact .inr (.inr ⟨by simpa using hh, ‹_›, h⟩)

/-- What a step under an encoding can do: the core with an empty script, else the first event of the script
(R7, R414). -/
theorem nextStep_next {enc : Encoding} {s t : State} (h : nextStep enc s = .next t) :
    (s.env = [] ∧ coreStep enc s = .next t) ∨
    ∃ e rest, s.env = e :: rest ∧ eventStep enc e { s with env := rest } = .next t := by
  unfold nextStep at h
  split at h
  · exact .inl ⟨‹_›, h⟩
  · exact .inr ⟨_, _, ‹_›, h⟩

/-- What a step can do. -/
theorem step_next {s t : State} (h : step s = .next t) :
    (s.env = [] ∧ coreStep decode s = .next t) ∨
    ∃ e rest, s.env = e :: rest ∧ eventStep decode e { s with env := rest } = .next t :=
  nextStep_next h

/-- What an event can do. -/
theorem eventStep_next {enc : Encoding} {e : Event} {s t : State} (h : eventStep enc e s = .next t) :
    (e = .run ∧ s.halted = true ∧ t = s) ∨ (e = .run ∧ s.halted = false ∧ runInstr enc s = .next t) ∨
    (e = .core ∧ coreStep enc s = .next t) ∨ (∃ u, e = .unit u ∧ t = wakeByPads s (unitTick u s)) ∨
    (e = .sysClock ∧ t = wakeByPads s (sysTick s)) ∨ (e = .fsCycle ∧ s.opt.wdtClk = .sysDiv4 ∧ t = s) ∨
    (e = .fsCycle ∧ s.opt.wdtClk ≠ .sysDiv4 ∧ t = wakeByPads s (fsTick s.halted s)) ∨
    (∃ a b c d f, e = .pads a b c d f ∧ t = wakeByPads s (drivePads a b c d f s)) ∨
    (∃ l, e = .supply l ∧ t = { s with vddLow := l }) ∨ (e = .res ∧ t = resReset s) ∨
    (∃ x, e = .powerOn x ∧ t = powerOn x s) ∨ (∃ x o p, e = .lowVoltage x o p ∧ t = lowVoltageReset x o p s) := by
  cases e <;> simp only [eventStep] at h
  case run =>
    split at h
    · cases h; exact .inl ⟨rfl, ‹_›, rfl⟩
    · next hh => exact .inr (.inl ⟨rfl, by simpa using hh, h⟩)
  case core => exact .inr (.inr (.inl ⟨rfl, h⟩))
  case fsCycle =>
    split at h <;> cases h <;> simp_all
  case lowVoltage x o p =>
    cases h; iterate 11 apply Or.inr
    exact ⟨x, o, p, rfl, rfl⟩
  all_goals cases h; simp

/-- `clocked` puts clock events in front of the script and changes nothing else. -/
theorem clocked_cases (n : Nat) (s : State) : clocked n s = { s with env := (clocked n s).env } := by
  unfold clocked; split <;> rfl

end Sys2Proof.Machine
end

