-- ==== Sys2Proof/Laws/Units.lean ====
section
/-! SUPPORT. What the units beside the core can change, said once, and the lemmas of a count event. -/

namespace Sys2Proof.Machine

/-- The fields a timer, the time base, the RTC or the buzzer can change. -/
def UnitEffect (s s' : State) : Prop :=
  s' = { s with
    t0 := s'.t0, t1 := s'.t1, req := s'.req, halted := s'.halted, pfdFF := s'.pfdFF,
    tbCnt := s'.tbCnt, rtcCnt := s'.rtcCnt, bzCnt := s'.bzCnt, tPhase := s'.tPhase }

theorem UnitEffect.refl (s : State) : UnitEffect s s := rfl

theorem UnitEffect.trans {a b c : State} (h1 : UnitEffect a b) (h2 : UnitEffect b c) : UnitEffect a c := by
  unfold UnitEffect at *
  rw [h1] at h2
  exact h2

theorem raise_effect (src : Source) (s : State) : UnitEffect s (raise src s) := by
  unfold raise; split <;> rfl

theorem togglePfd_effect (p : Config.PfdSrc) (s : State) : UnitEffect s (togglePfd p s) := by
  unfold togglePfd; split <;> rfl

theorem countTimer1_effect (s : State) : UnitEffect s (countTimer1 s) := by
  unfold countTimer1
  have h0 : UnitEffect s { s with t1 := s.t1.countEvent.1 } := rfl
  dsimp only
  split
  · exact (h0.trans (togglePfd_effect _ _)).trans (raise_effect _ _)
  · exact h0

theorem clockTimer1_effect (s : State) : UnitEffect s (clockTimer1 s) := by
  unfold clockTimer1; split
  · exact countTimer1_effect s
  · exact UnitEffect.refl s

theorem tickTimer1_effect (c : Config.T1Clk) (s : State) : UnitEffect s (tickTimer1 c s) := by
  unfold tickTimer1; split
  · exact clockTimer1_effect s
  · exact UnitEffect.refl s

theorem countTimer0_effect (s : State) : UnitEffect s (countTimer0 s) := by
  unfold countTimer0
  have h0 : UnitEffect s { s with t0 := s.t0.countEvent.1 } := rfl
  dsimp only
  split
  · exact ((h0.trans (togglePfd_effect .pfd0 _)).trans (raise_effect .t0 _)).trans (tickTimer1_effect _ _)
  · exact h0

theorem clockTimer0_effect (s : State) : UnitEffect s (clockTimer0 s) := by
  unfold clockTimer0; split
  · exact countTimer0_effect s
  · exact UnitEffect.refl s

theorem tickTimer0_effect (c : Config.T0Clk) (s : State) : UnitEffect s (tickTimer0 c s) := by
  unfold tickTimer0; split
  · exact clockTimer0_effect s
  · exact UnitEffect.refl s

theorem tickTimer1Div4_effect (s : State) : UnitEffect s (tickTimer1Div4 s) := by
  unfold tickTimer1Div4; split
  · exact clockTimer1_effect s
  · exact UnitEffect.refl s

theorem timeBaseOut_effect (s : State) : UnitEffect s (timeBaseOut s) :=
  (raise_effect .tb s).trans (tickTimer1_effect _ _)

theorem rtcOut_effect (s : State) : UnitEffect s (rtcOut s) := by
  unfold rtcOut
  have h := raise_effect .rtc s
  dsimp only
  split
  · exact h
  · exact h.trans (clockTimer0_effect _)

theorem tickTimeBase_effect (s : State) : UnitEffect s (tickTimeBase s) := by
  unfold tickTimeBase; split
  · exact UnitEffect.trans (b := { s with tbCnt := 0 }) rfl (timeBaseOut_effect _)
  · rfl

theorem tickRtc_effect (s : State) : UnitEffect s (tickRtc s) := by
  unfold tickRtc; split
  · exact UnitEffect.trans (b := { s with rtcCnt := 0 }) rfl (rtcOut_effect _)
  · rfl

theorem tickBuzzer_effect (s : State) : UnitEffect s (tickBuzzer s) := rfl

/-- The three chains of the multi-function timer beside the watchdog. -/
theorem chains_effect (s : State) : UnitEffect s (tickBuzzer (tickRtc (tickTimeBase s))) :=
  ((tickTimeBase_effect s).trans (tickRtc_effect _)).trans (tickBuzzer_effect _)

/-- One cycle of fs: the chains, and the watchdog's count or time-out (R346, R347). -/
theorem fsTick_cases (b : Bool) (s : State) :
    ∃ u, UnitEffect s u ∧
      ((s.opt.wdtEn = false ∧ fsTick b s = u) ∨
       (s.opt.wdtEn = true ∧ s.wdtCnt.toNat + 1 ≠ 65536 ∧ fsTick b s = { u with wdtCnt := s.wdtCnt + 1 }) ∨
       (s.opt.wdtEn = true ∧ s.wdtCnt.toNat + 1 = 65536 ∧
         fsTick b s = wdtTimeOut { u with wdtCnt := 0, halted := b })) := by
  refine ⟨_, chains_effect s, ?_⟩
  have h := chains_effect s
  have ho : (tickBuzzer (tickRtc (tickTimeBase s))).opt = s.opt := by rw [h]
  have hw : (tickBuzzer (tickRtc (tickTimeBase s))).wdtCnt = s.wdtCnt := by rw [h]
  unfold fsTick tickWatchdog
  rw [ho, hw]
  generalize tickBuzzer (tickRtc (tickTimeBase s)) = u
  by_cases he : s.opt.wdtEn = true
  · rw [he]
    by_cases hc : s.wdtCnt.toNat + 1 = 65536
    · exact .inr (.inr ⟨rfl, hc, by rw [if_neg (by decide), if_pos hc]⟩)
    · exact .inr (.inl ⟨rfl, hc, by rw [if_neg (by decide), if_neg hc]⟩)
  · have he : s.opt.wdtEn = false := by simpa using he
    exact .inl ⟨he, by rw [he]; rfl⟩

theorem div4Tick_cases (b : Bool) (s : State) :
    ∃ u, UnitEffect s u ∧ (div4Tick b s = u ∨ (s.opt.wdtClk = .sysDiv4 ∧ div4Tick b s = fsTick b u)) := by
  refine ⟨_, (tickTimer0_effect .sysDiv4 s).trans (tickTimer1Div4_effect _), ?_⟩
  unfold div4Tick
  by_cases h : s.opt.wdtClk = .sysDiv4
  · exact .inr ⟨h, if_pos h⟩
  · exact .inl (if_neg h)

/-- One cycle of the system clock (R331, R346): the timers, and a cycle of fs where option 2 says so. -/
theorem sysTick_cases (s : State) :
    ∃ u, UnitEffect s u ∧ (sysTick s = u ∨ (s.opt.wdtClk = .sysDiv4 ∧ sysTick s = fsTick s.halted u)) := by
  by_cases hr : (!s.sysClockRuns) = true
  · exact ⟨s, UnitEffect.refl s, .inl (by unfold sysTick; rw [if_pos hr])⟩
  · have h1 : UnitEffect s { s with tPhase := s.tPhase + 1 } := rfl
    have h := (h1.trans (tickTimer0_effect .sys _)).trans (tickTimer1_effect .sys _)
    have hs : sysTick s = if s.tPhase = 3 then
        div4Tick s.halted (tickTimer1 .sys (tickTimer0 .sys { s with tPhase := s.tPhase + 1 }))
        else tickTimer1 .sys (tickTimer0 .sys { s with tPhase := s.tPhase + 1 }) := by
      unfold sysTick; rw [if_neg hr]
    rw [hs]
    generalize tickTimer1 .sys (tickTimer0 .sys { s with tPhase := s.tPhase + 1 }) = s1 at h
    by_cases hp : s.tPhase = 3
    · obtain ⟨u, hu, h4⟩ := div4Tick_cases s.halted s1
      have ho : s1.opt = s.opt := by rw [h]
      rw [ho] at h4
      exact ⟨u, h.trans hu, by rw [if_pos hp]; exact h4⟩
    · exact ⟨s1, h, .inl (if_neg hp)⟩

/-- What the watchdog does with one cycle of fs (R346, R347, R350). -/
theorem tickWatchdog_cases (b : Bool) (s : State) :
    (s.opt.wdtEn = false ∧ tickWatchdog b s = s) ∨
    (s.opt.wdtEn = true ∧ s.wdtCnt.toNat + 1 ≠ 65536 ∧ tickWatchdog b s = { s with wdtCnt := s.wdtCnt + 1 }) ∨
    (s.opt.wdtEn = true ∧ s.wdtCnt.toNat + 1 = 65536 ∧
      tickWatchdog b s = wdtTimeOut { s with wdtCnt := 0, halted := b }) := by
  by_cases he : s.opt.wdtEn = true
  · by_cases hc : s.wdtCnt.toNat + 1 = 65536
    · exact .inr (.inr ⟨he, hc, by simp [tickWatchdog, he, hc]⟩)
    · exact .inr (.inl ⟨he, hc, by simp [tickWatchdog, he, hc]⟩)
  · have he : s.opt.wdtEn = false := by simpa using he
    exact .inl ⟨he, by simp [tickWatchdog, he]⟩

/-- One cycle of its clock at one unit: the watchdog's cycle, or an effect of a timer, the time base, the RTC or the
buzzer. -/
theorem unitTick_cases (u : ClockedUnit) (s : State) :
    UnitEffect s (unitTick u s) ∨ (u = .watchdog ∧ unitTick u s = tickWatchdog s.halted s) := by
  cases u <;> simp only [unitTick] <;> split
  case timer0.isTrue => exact .inl (clockTimer0_effect s)
  case timer1.isTrue => exact .inl (clockTimer1_effect s)
  case timeBase.isTrue => exact .inl (tickTimeBase_effect s)
  case rtc.isTrue => exact .inl (tickRtc_effect s)
  case buzzer.isTrue => exact .inl (tickBuzzer_effect s)
  case watchdog.isTrue => exact .inr ⟨trivial, rfl⟩
  all_goals exact .inl (UnitEffect.refl s)

theorem externalPin_effect (src : Source) (a b : Bool) (s : State) : UnitEffect s (externalPin src a b s) := by
  unfold externalPin; split
  · exact raise_effect src s
  · exact UnitEffect.refl s

theorem timer0Pin_effect (a b : Bool) (s : State) : UnitEffect s (timer0Pin a b s) := by
  unfold timer0Pin
  split
  · exact UnitEffect.refl s
  · have h : UnitEffect s { s with t0 := (s.t0.pinEdge b).1 } := rfl
    dsimp only
    split
    · exact h.trans (countTimer0_effect _)
    · exact h

theorem timer1Pin_effect (a b : Bool) (s : State) : UnitEffect s (timer1Pin a b s) := by
  unfold timer1Pin
  split
  · exact UnitEffect.refl s
  · have h : UnitEffect s { s with t1 := (s.t1.pinEdge b).1 } := rfl
    dsimp only
    split
    · exact h.trans (countTimer1_effect _)
    · exact h

/-- New pad levels: the inputs, and what the units make of the edges (R304, R322, R335, R338). -/
theorem drivePads_effect (a b c : Byte) (d e : BitVec 4) (s : State) :
    UnitEffect { s with paDriven := a, paLevel := b, pb := c, pcDriven := d, pcLevel := e }
      (drivePads a b c d e s) := by
  unfold drivePads
  dsimp only
  generalize ({ s with paDriven := a, paLevel := b, pb := c, pcDriven := d, pcLevel := e } : State) = s1
  exact (((externalPin_effect .int0 (s.pb.getLsbD 0) (c.getLsbD 0) s1).trans
    (externalPin_effect .int1 (s.pb.getLsbD 1) (c.getLsbD 1) _)).trans
    (timer0Pin_effect (s.pb.getLsbD 2) (c.getLsbD 2) _)).trans
    (timer1Pin_effect (s.pb.getLsbD 3) (c.getLsbD 3) _)

/-- What a count event does to a timer (R333). -/
theorem Timer.countEvent_on {t : Timer} (h : t.ton = true) (hb : t.blk = false) :
    t.countEvent = if t.cnt = 0xFF then ({ t with cnt := t.pre }, true) else ({ t with cnt := t.cnt + 1 }, false) := by
  simp [Timer.countEvent, h, hb]

theorem Timer.countEvent_off {t : Timer} (h : t.ton = false) : t.countEvent = (t, false) := by
  simp [Timer.countEvent, h]

/-- What the units beside the core can do to the request flags, HALT, TON and the options: a flag goes only from 0 to 1,
that ends HALT (R323) and nothing else does, a timer is never turned on, the options stay. -/
structure OnlyRaises (s s' : State) : Prop where
  keepsRequests : ∀ x, s.req.get x = true → s'.req.get x = true
  keepsRunning : s.halted = false → s'.halted = false
  newRequestWakes : ∀ x, s.req.get x = false → s'.req.get x = true → s'.halted = false
  timer0On : s'.t0.ton = true → s.t0.ton = true
  timer1On : s'.t1.ton = true → s.t1.ton = true
  sameOptions : s'.opt = s.opt
  wakesByRequest : s'.halted = false → s.halted = false ∨ ∃ x, s.req.get x = false ∧ s'.req.get x = true

/-- A change of neither the request flags nor HALT that turns no timer on. -/
theorem OnlyRaises.quiet {s s' : State} (h1 : s'.req = s.req) (h2 : s'.halted = s.halted)
    (h3 : s'.t0.ton = true → s.t0.ton = true) (h4 : s'.t1.ton = true → s.t1.ton = true) (h5 : s'.opt = s.opt) :
    OnlyRaises s s' :=
  ⟨fun x h => by rw [h1]; exact h, fun h => by rw [h2]; exact h, fun x h h' => by rw [h1] at h'; simp [h] at h', h3, h4,
    h5, fun h => .inl (by rw [← h2]; exact h)⟩

theorem OnlyRaises.refl (s : State) : OnlyRaises s s := .quiet rfl rfl id id rfl

theorem OnlyRaises.trans {a b c : State} (h : OnlyRaises a b) (k : OnlyRaises b c) : OnlyRaises a c := by
  refine ⟨fun x hx => k.1 x (h.1 x hx), fun hx => k.2 (h.2 hx), fun x h1 h2 => ?_, fun hx => h.4 (k.4 hx),
    fun hx => h.5 (k.5 hx), k.6.trans h.6, fun hx => ?_⟩
  · cases hb : b.req.get x
    · exact k.3 x hb h2
    · exact k.2 (h.3 x h1 hb)
  · rcases k.7 hx with h1 | ⟨x, h1, h2⟩
    · rcases h.7 h1 with h3 | ⟨x, h3, h4⟩
      · exact .inl h3
      · exact .inr ⟨x, h3, k.1 x h4⟩
    · refine .inr ⟨x, ?_, h2⟩
      cases ha : a.req.get x
      · rfl
      · have := h.1 x ha; simp_all

theorem raise_onlyRaises (src : Source) (s : State) : OnlyRaises s (raise src s) := by
  unfold raise; split
  · exact .refl s
  · next h =>
    refine ⟨fun x hx => ?_, fun _ => rfl, fun _ _ _ => rfl, id, id, rfl,
      fun _ => .inr ⟨src, by simpa using h, by cases src <;> rfl⟩⟩
    cases src <;> cases x <;> first | rfl | exact hx

theorem togglePfd_onlyRaises (p : Config.PfdSrc) (s : State) : OnlyRaises s (togglePfd p s) := by
  unfold togglePfd; split <;> exact .quiet rfl rfl id id rfl

@[simp] theorem Timer.countEvent_ton (t : Timer) : t.countEvent.1.ton = t.ton := by
  unfold Timer.countEvent; repeat' split
  all_goals rfl

theorem Timer.pinEdge_ton (t : Timer) (b : Bool) : (t.pinEdge b).1.ton = true → t.ton = true := by
  unfold Timer.pinEdge; repeat' split
  all_goals simp

theorem countTimer1_onlyRaises (s : State) : OnlyRaises s (countTimer1 s) := by
  have h0 : OnlyRaises s { s with t1 := s.t1.countEvent.1 } := .quiet rfl rfl id (by simp) rfl
  unfold countTimer1; dsimp only; split
  · exact (h0.trans (togglePfd_onlyRaises _ _)).trans (raise_onlyRaises _ _)
  · exact h0

theorem clockTimer1_onlyRaises (s : State) : OnlyRaises s (clockTimer1 s) := by
  unfold clockTimer1; split
  · exact countTimer1_onlyRaises s
  · exact .refl s

theorem tickTimer1_onlyRaises (c : Config.T1Clk) (s : State) : OnlyRaises s (tickTimer1 c s) := by
  unfold tickTimer1; split
  · exact clockTimer1_onlyRaises s
  · exact .refl s

theorem countTimer0_onlyRaises (s : State) : OnlyRaises s (countTimer0 s) := by
  have h0 : OnlyRaises s { s with t0 := s.t0.countEvent.1 } := .quiet rfl rfl (by simp) id rfl
  unfold countTimer0; dsimp only; split
  · exact ((h0.trans (togglePfd_onlyRaises .pfd0 _)).trans (raise_onlyRaises .t0 _)).trans (tickTimer1_onlyRaises _ _)
  · exact h0

theorem clockTimer0_onlyRaises (s : State) : OnlyRaises s (clockTimer0 s) := by
  unfold clockTimer0; split
  · exact countTimer0_onlyRaises s
  · exact .refl s

theorem tickTimer0_onlyRaises (c : Config.T0Clk) (s : State) : OnlyRaises s (tickTimer0 c s) := by
  unfold tickTimer0; split
  · exact clockTimer0_onlyRaises s
  · exact .refl s

theorem tickTimer1Div4_onlyRaises (s : State) : OnlyRaises s (tickTimer1Div4 s) := by
  unfold tickTimer1Div4; split
  · exact clockTimer1_onlyRaises s
  · exact .refl s

theorem tickTimeBase_onlyRaises (s : State) : OnlyRaises s (tickTimeBase s) := by
  unfold tickTimeBase; split
  · have h : OnlyRaises s { s with tbCnt := 0 } := .quiet rfl rfl id id rfl
    exact (h.trans (raise_onlyRaises .tb _)).trans (tickTimer1_onlyRaises .tbOvf _)
  · exact .quiet rfl rfl id id rfl

theorem tickRtc_onlyRaises (s : State) : OnlyRaises s (tickRtc s) := by
  unfold tickRtc; split
  · have h0 : OnlyRaises s { s with rtcCnt := 0 } := .quiet rfl rfl id id rfl
    have h := h0.trans (raise_onlyRaises .rtc _)
    unfold rtcOut; dsimp only; split
    · exact h
    · exact h.trans (clockTimer0_onlyRaises _)
  · exact .quiet rfl rfl id id rfl

/-- The three chains of the multi-function timer beside the watchdog. -/
theorem chains_onlyRaises (s : State) : OnlyRaises s (tickBuzzer (tickRtc (tickTimeBase s))) :=
  ((tickTimeBase_onlyRaises s).trans (tickRtc_onlyRaises _)).trans (.quiet rfl rfl id id rfl)

theorem externalPin_onlyRaises (src : Source) (a b : Bool) (s : State) : OnlyRaises s (externalPin src a b s) := by
  unfold externalPin; split
  · exact raise_onlyRaises src s
  · exact .refl s

theorem timer0Pin_onlyRaises (a b : Bool) (s : State) : OnlyRaises s (timer0Pin a b s) := by
  have h0 : OnlyRaises s { s with t0 := (s.t0.pinEdge b).1 } := .quiet rfl rfl (s.t0.pinEdge_ton b) id rfl
  unfold timer0Pin; dsimp only; split
  · exact .refl s
  · split
    · exact h0.trans (countTimer0_onlyRaises _)
    · exact h0

theorem timer1Pin_onlyRaises (a b : Bool) (s : State) : OnlyRaises s (timer1Pin a b s) := by
  have h0 : OnlyRaises s { s with t1 := (s.t1.pinEdge b).1 } := .quiet rfl rfl id (s.t1.pinEdge_ton b) rfl
  unfold timer1Pin; dsimp only; split
  · exact .refl s
  · split
    · exact h0.trans (countTimer1_onlyRaises _)
    · exact h0

/-- One cycle of the system clock up to its cycle of fs (R331, R346). -/
theorem sysTick_onlyRaises (s : State) :
    ∃ u, OnlyRaises s u ∧ (sysTick s = u ∨ (s.opt.wdtClk = .sysDiv4 ∧ sysTick s = fsTick s.halted u)) := by
  unfold sysTick; split
  · exact ⟨s, .refl s, .inl rfl⟩
  · have h0 : OnlyRaises s { s with tPhase := s.tPhase + 1 } := .quiet rfl rfl id id rfl
    have h := (h0.trans (tickTimer0_onlyRaises .sys _)).trans (tickTimer1_onlyRaises .sys _)
    dsimp only
    split
    · have h4 := (h.trans (tickTimer0_onlyRaises .sysDiv4 _)).trans (tickTimer1Div4_onlyRaises _)
      unfold div4Tick; dsimp only
      split
      · exact ⟨_, h4, .inr ⟨by rw [← h.sameOptions]; assumption, rfl⟩⟩
      · exact ⟨_, h4, .inl rfl⟩
    · exact ⟨_, h, .inl rfl⟩

/-- The edges that new pad levels make on PB (R304, R335, R338). -/
theorem drivePads_onlyRaises (a b c : Byte) (d e : BitVec 4) (s : State) :
    OnlyRaises s (drivePads a b c d e s) := by
  have h0 : OnlyRaises s { s with paDriven := a, paLevel := b, pb := c, pcDriven := d, pcLevel := e } :=
    .quiet rfl rfl id id rfl
  exact (((h0.trans (externalPin_onlyRaises .int0 (s.pb.getLsbD 0) (c.getLsbD 0) _)).trans
    (externalPin_onlyRaises .int1 (s.pb.getLsbD 1) (c.getLsbD 1) _)).trans
    (timer0Pin_onlyRaises (s.pb.getLsbD 2) (c.getLsbD 2) _)).trans
    (timer1Pin_onlyRaises (s.pb.getLsbD 3) (c.getLsbD 3) _)

/-- A wake-up pad falls exactly where some pin with its option on goes from high to low (R322). -/
theorem paFalls_iff (s s' : State) : paFalls s s' = true ↔
    ∃ i, i < 8 ∧ s.opt.paWake.getLsbD i = true ∧ s.paPad s.paLevel i = true ∧ s'.paPad s'.paLevel i = false := by
  simp [paFalls, List.any_eq_true, and_assoc]

/-- Port A wake-up can end HALT, by a falling wake-up pad, and does nothing else (R322). -/
theorem wakeByPads_cases (s s' : State) :
    (paFalls s s' = true ∧ wakeByPads s s' = { s' with halted := false }) ∨
    (paFalls s s' = false ∧ wakeByPads s s' = s') := by
  unfold wakeByPads
  cases h : paFalls s s'
  · exact .inr ⟨rfl, rfl⟩
  · exact .inl ⟨rfl, rfl⟩

/-- Port A wake-up changes HALT at most. -/
theorem wakeByPads_eq (s s' : State) : wakeByPads s s' = { s' with halted := (wakeByPads s s').halted } := by
  unfold wakeByPads; split <;> rfl

/-- It leaves a running core running. -/
theorem wakeByPads_running {s s' : State} (h : s'.halted = false) : wakeByPads s s' = s' := by
  unfold wakeByPads; split
  · rw [← h]
  · rfl

/-- Where nothing changed no pad falls. -/
@[simp] theorem wakeByPads_self (s : State) : wakeByPads s s = s := by
  have h : paFalls s s = false := by simp [paFalls]
  simp [wakeByPads, h]

end Sys2Proof.Machine
end

