-- ==== Sys2Proof/Tests/Slice0.lean ====
section
/-! SUPPORT. Tests. Expected results are those of spec/95_test_vectors.md, whose row names stand in the test names (A1,
L3, ...), or are worked out by hand from the rule named; words are written from R125. The last part shows, for each
statement of the obligations that has hypotheses, a state and operands that meet them. -/

namespace Sys2Proof.Tests

open Sys2Proof Sys2Proof.Machine

/-! ## WellFormed refuses ill-formed terms -/

theorem test_wf_options_good : Config.Options.standard.wf = true := by decide
theorem test_wf_options_tbDiv : ({ Config.Options.standard with tbDiv := 16 } : Config.Options).wf = false := by decide
theorem test_wf_options_bzDiv : ({ Config.Options.standard with bzDiv := 1 } : Config.Options).wf = false := by decide
theorem test_wf_options_lcdCom : ({ Config.Options.standard with lcdCom := 5 } : Config.Options).wf = false := by decide
theorem test_wf_options_lcdClkDiv : ({ Config.Options.standard with lcdClkDiv := 9 } : Config.Options).wf = false := by
  decide
theorem test_wf_image_good : Image.wf [(0x000, 0x4020), (0xFFF, 0x0000)] = true := by decide
theorem test_wf_image_address : Image.wf [(0x1000, 0x0000)] = false := by decide
theorem test_wf_image_order : Image.wf [(0x005, 0x0000), (0x005, 0x0001)] = false := by decide
theorem test_wf_instr : (Instr.addX 0xFF).wf = true := by decide

/-! ## Decoding: every constructor from a word written out bit by bit (R125) -/

theorem test_decode_addA : decode 0b000000101100000#15 = .ok (.addA 0x60) := by decide
theorem test_decode_addM : decode 0b000001010100101#15 = .ok (.addM 0xA5) := by decide
theorem test_decode_adcA : decode 0b000001100001010#15 = .ok (.adcA 0x0A) := by decide
theorem test_decode_adcM : decode 0b000010011111111#15 = .ok (.adcM 0xFF) := by decide
theorem test_decode_subA : decode 0b000010100000101#15 = .ok (.subA 0x05) := by decide
theorem test_decode_subM : decode 0b000011001100000#15 = .ok (.subM 0x60) := by decide
theorem test_decode_sbcA : decode 0b000011110100101#15 = .ok (.sbcA 0xA5) := by decide
theorem test_decode_sbcM : decode 0b000100000001010#15 = .ok (.sbcM 0x0A) := by decide
theorem test_decode_daa : decode 0b000100111111111#15 = .ok (.daa 0xFF) := by decide
theorem test_decode_andA : decode 0b000101000000101#15 = .ok (.andA 0x05) := by decide
theorem test_decode_orA : decode 0b000101101100000#15 = .ok (.orA 0x60) := by decide
theorem test_decode_xorA : decode 0b000110010100101#15 = .ok (.xorA 0xA5) := by decide
theorem test_decode_andM : decode 0b000110100001010#15 = .ok (.andM 0x0A) := by decide
theorem test_decode_orM : decode 0b000111011111111#15 = .ok (.orM 0xFF) := by decide
theorem test_decode_xorM : decode 0b000111100000101#15 = .ok (.xorM 0x05) := by decide
theorem test_decode_cpl : decode 0b001000001100000#15 = .ok (.cpl 0x60) := by decide
theorem test_decode_cplA : decode 0b001000110100101#15 = .ok (.cplA 0xA5) := by decide
theorem test_decode_incA : decode 0b001001000001010#15 = .ok (.incA 0x0A) := by decide
theorem test_decode_inc : decode 0b001001111111111#15 = .ok (.inc 0xFF) := by decide
theorem test_decode_decA : decode 0b001010000000101#15 = .ok (.decA 0x05) := by decide
theorem test_decode_dec : decode 0b001010101100000#15 = .ok (.dec 0x60) := by decide
theorem test_decode_rrA : decode 0b001011010100101#15 = .ok (.rrA 0xA5) := by decide
theorem test_decode_rr : decode 0b001011100001010#15 = .ok (.rr 0x0A) := by decide
theorem test_decode_rrcA : decode 0b001100011111111#15 = .ok (.rrcA 0xFF) := by decide
theorem test_decode_rrc : decode 0b001100100000101#15 = .ok (.rrc 0x05) := by decide
theorem test_decode_rlA : decode 0b001101001100000#15 = .ok (.rlA 0x60) := by decide
theorem test_decode_rl : decode 0b001101110100101#15 = .ok (.rl 0xA5) := by decide
theorem test_decode_rlcA : decode 0b001110000001010#15 = .ok (.rlcA 0x0A) := by decide
theorem test_decode_rlc : decode 0b001110111111111#15 = .ok (.rlc 0xFF) := by decide
theorem test_decode_movA : decode 0b001111000000101#15 = .ok (.movA 0x05) := by decide
theorem test_decode_movM : decode 0b001111101100000#15 = .ok (.movM 0x60) := by decide
theorem test_decode_sz : decode 0b010000010100101#15 = .ok (.sz 0xA5) := by decide
theorem test_decode_szA : decode 0b010000100001010#15 = .ok (.szA 0x0A) := by decide
theorem test_decode_siz : decode 0b010001011111111#15 = .ok (.siz 0xFF) := by decide
theorem test_decode_sdz : decode 0b010001100000101#15 = .ok (.sdz 0x05) := by decide
theorem test_decode_sizA : decode 0b010010001100000#15 = .ok (.sizA 0x60) := by decide
theorem test_decode_sdzA : decode 0b010010110100101#15 = .ok (.sdzA 0xA5) := by decide
theorem test_decode_tabrdc : decode 0b010011000001010#15 = .ok (.tabrdc 0x0A) := by decide
theorem test_decode_tabrdl : decode 0b010011111111111#15 = .ok (.tabrdl 0xFF) := by decide
theorem test_decode_clrAll : decode 0b010100000000101#15 = .ok (.clrAll 0x05) := by decide
theorem test_decode_setAll : decode 0b010100101100000#15 = .ok (.setAll 0x60) := by decide
theorem test_decode_swap : decode 0b010101010100101#15 = .ok (.swap 0xA5) := by decide
theorem test_decode_swapA : decode 0b010101100001010#15 = .ok (.swapA 0x0A) := by decide
theorem test_decode_addX : decode 0b011000011111111#15 = .ok (.addX 0xFF) := by decide
theorem test_decode_subX : decode 0b011000100000101#15 = .ok (.subX 0x05) := by decide
theorem test_decode_andX : decode 0b011001001100000#15 = .ok (.andX 0x60) := by decide
theorem test_decode_orX : decode 0b011001110100101#15 = .ok (.orX 0xA5) := by decide
theorem test_decode_xorX : decode 0b011010000001010#15 = .ok (.xorX 0x0A) := by decide
theorem test_decode_movX : decode 0b011010111111111#15 = .ok (.movX 0xFF) := by decide
theorem test_decode_retX : decode 0b011011000000101#15 = .ok (.retX 0x05) := by decide
theorem test_decode_nop : decode 0b000000000000000#15 = .ok .nop := by decide
theorem test_decode_ret : decode 0b000000000000001#15 = .ok .ret := by decide
theorem test_decode_reti : decode 0b000000000000010#15 = .ok .reti := by decide
theorem test_decode_clrWdt : decode 0b000000000000011#15 = .ok .clrWdt := by decide
theorem test_decode_clrWdt1 : decode 0b000000000000100#15 = .ok .clrWdt1 := by decide
theorem test_decode_clrWdt2 : decode 0b000000000000101#15 = .ok .clrWdt2 := by decide
theorem test_decode_halt : decode 0b000000000000110#15 = .ok .halt := by decide
theorem test_decode_jmp : decode 0b100101010111100#15 = .ok (.jmp 0xABC) := by decide
theorem test_decode_call : decode 0b101001100000000#15 = .ok (.call 0x300) := by decide
theorem test_decode_clrBit : decode 0b110001101100000#15 = .ok (.clrBit 0x60 3) := by decide
theorem test_decode_setBit : decode 0b110111100001010#15 = .ok (.setBit 0x0A 7) := by decide
theorem test_decode_szBit : decode 0b111000100001010#15 = .ok (.szBit 0x0A 1) := by decide
theorem test_decode_snzBit : decode 0b111110110100101#15 = .ok (.snzBit 0xA5 5) := by decide

/-- The refused words of vectors 2.10, and the words next to them that decode (R128). -/
theorem test_decode_boundaries :
    decode 0x0007 = .error .unassignedSub ∧ decode 0x00FF = .error .unassignedSub ∧
    decode 0x0100 = .ok (.addA 0x00) ∧ decode 0x2BFF = .ok (.swapA 0xFF) ∧
    decode 0x2C00 = .error .unassignedSlot ∧ decode 0x2FFF = .error .unassignedSlot ∧
    decode 0x3000 = .ok (.addX 0x00) ∧ decode 0x36FF = .ok (.retX 0xFF) ∧
    decode 0x3700 = .error .unassignedSlot ∧ decode 0x3FFF = .error .unassignedSlot ∧
    decode 0x4000 = .ok (.jmp 0x000) ∧ decode 0x7FFF = .ok (.snzBit 0xFF 7) := by decide

theorem test_decodeTableWord : decodeTableWord 16 0x0060 = none ∧ decodeTableWord 16 0x0160 = some (.addA 0x60) ∧
    decodeTableWord 16 0x8000 = none := by decide

/-! ## One step of each instruction -/

/-- An accumulator, [60H] and the flags C, AC, Z, OV; the instruction stands at 100H. -/
def st (acc m60 : Byte) (c ac z ov : Bool) : State :=
  { State.reset with pc := 0x100, acc := acc, ram := [(0x60, m60)], flags := ⟨c, ac, z, ov⟩ }

/-- The same with PCL as the register of interest: the instruction stands at `pc`. -/
def stAt (pc : PAddr) (acc m60 : Byte) : State := { st acc m60 false false false false with pc := pc }

/-- The instruction answers a next state with the property. -/
def gives (i : Instr) (s : State) (p : State → Bool) : Bool :=
  match exec i s with
  | .next t => p t
  | .fault _ => false
  | .refused _ => false

/-- ACC, [60H] and the flags after the instruction, which took one cycle to 101H. -/
def leaves (i : Instr) (s : State) (acc m60 : Byte) (c ac z ov : Bool) : Bool :=
  gives i s fun t => decide (t.acc = acc) && decide (Memory.read t.ram 0x60 = some m60) &&
    decide (t.flags = ⟨c, ac, z, ov⟩) && decide (t.pc = 0x101) && decide (t.cycles = 1)

/-- pc, cycles, ACC and [60H] after the instruction. -/
def goesTo (i : Instr) (s : State) (pc : PAddr) (cycles : Nat) (acc m60 : Byte) : Bool :=
  gives i s fun t => decide (t.pc = pc) && decide (t.cycles = cycles) && decide (t.acc = acc) &&
    decide (Memory.read t.ram 0x60 = some m60)

theorem test_A7_addX :
    leaves (.addX 0xFF) (st 0x80 0x00 false false false false) 0x7F 0x00 true false false true = true := by decide
theorem test_A3_addX :
    leaves (.addX 0x01) (st 0x7F 0x00 false false false false) 0x80 0x00 false true false true = true := by decide
theorem test_A8_addA :
    leaves (.addA 0x60) (st 0x38 0x45 false false false false) 0x7D 0x45 false false false false = true := by decide
theorem test_A10_addM :
    leaves (.addM 0x60) (st 0xF0 0x10 false false false false) 0xF0 0x00 true false true false = true := by decide
theorem test_A13_adcA :
    leaves (.adcA 0x60) (st 0x7F 0x00 true false false false) 0x80 0x00 false true false true = true := by decide
theorem test_A15_adcA :
    leaves (.adcA 0x60) (st 0xFF 0xFF true false false false) 0xFF 0xFF true true false false = true := by decide
theorem test_A17_adcM :
    leaves (.adcM 0x60) (st 0x01 0xFE true false false false) 0x01 0x00 true true true false = true := by decide
theorem test_A22_subX :
    leaves (.subX 0x01) (st 0x80 0x00 false false false false) 0x7F 0x00 true false false true = true := by decide
theorem test_A23_subX :
    leaves (.subX 0xFF) (st 0x7F 0x00 false false false false) 0x80 0x00 false true false true = true := by decide
theorem test_A27_subA :
    leaves (.subA 0x60) (st 0x50 0x20 false false false false) 0x30 0x20 true true false false = true := by decide
theorem test_A29_subM :
    leaves (.subM 0x60) (st 0x20 0x50 false false false false) 0x20 0xD0 false true false false = true := by decide
theorem test_A31_sbcA :
    leaves (.sbcA 0x60) (st 0x50 0x20 false false false false) 0x2F 0x20 true false false false = true := by decide
theorem test_A35_sbcA :
    leaves (.sbcA 0x60) (st 0x00 0xFF false false false false) 0x00 0xFF false false true false = true := by decide
theorem test_A36_sbcM :
    leaves (.sbcM 0x60) (st 0x50 0x50 false false false false) 0x50 0xFF false false false false = true := by decide
theorem test_A37_sbcM :
    leaves (.sbcM 0x60) (st 0x50 0x4F false false false false) 0x50 0x00 true false true false = true := by decide
theorem test_A41_daa :
    leaves (.daa 0x60) (st 0x9A 0x11 false false false false) 0x9A 0x00 true false false false = true := by decide
theorem test_A51_daa :
    leaves (.daa 0x60) (st 0xF3 0x11 true true false false) 0xF3 0x59 true true false false = true := by decide
theorem test_L1_andA :
    leaves (.andA 0x60) (st 0xF0 0x3C true true false true) 0x30 0x3C true true false true = true := by decide
theorem test_L2_andA :
    leaves (.andA 0x60) (st 0xF0 0x0F true true false true) 0x00 0x0F true true true true = true := by decide
theorem test_L3_orA :
    leaves (.orA 0x60) (st 0xF0 0x0F true true false true) 0xFF 0x0F true true false true = true := by decide
theorem test_L5_xorA :
    leaves (.xorA 0x60) (st 0xAA 0xFF true true false true) 0x55 0xFF true true false true = true := by decide
theorem test_L6_xorA :
    leaves (.xorA 0x60) (st 0x5A 0x5A true true false true) 0x00 0x5A true true true true = true := by decide
theorem test_L7_andM :
    leaves (.andM 0x60) (st 0xF0 0x3C false false false false) 0xF0 0x30 false false false false = true := by decide
theorem test_L9_orM :
    leaves (.orM 0x60) (st 0x81 0x18 false false false false) 0x81 0x99 false false false false = true := by decide
theorem test_L11_xorM :
    leaves (.xorM 0x60) (st 0x33 0x33 false false false false) 0x33 0x00 false false true false = true := by decide
theorem test_L12_andX :
    leaves (.andX 0x0F) (st 0xA5 0x00 false false false false) 0x05 0x00 false false false false = true := by decide
theorem test_L14_orX :
    leaves (.orX 0x5A) (st 0xA5 0x00 false false false false) 0xFF 0x00 false false false false = true := by decide
theorem test_L16_xorX :
    leaves (.xorX 0xFF) (st 0xA5 0x00 false false false false) 0x5A 0x00 false false false false = true := by decide
theorem test_L18_cpl :
    leaves (.cpl 0x60) (st 0x11 0x55 false false false false) 0x11 0xAA false false false false = true := by decide
theorem test_L22_cplA :
    leaves (.cplA 0x60) (st 0x11 0xFF false false false false) 0x00 0xFF false false true false = true := by decide
theorem test_U2_inc :
    leaves (.inc 0x60) (st 0x11 0xFF true true false true) 0x11 0x00 true true true true = true := by decide
theorem test_U6_dec :
    leaves (.dec 0x60) (st 0x11 0x00 true true false true) 0x11 0xFF true true false true = true := by decide
theorem test_U8_incA :
    leaves (.incA 0x60) (st 0x11 0x41 false false false false) 0x42 0x41 false false false false = true := by decide
theorem test_U10_decA :
    leaves (.decA 0x60) (st 0x11 0x01 false false false false) 0x00 0x01 false false true false = true := by decide
theorem test_T1_rr :
    leaves (.rr 0x60) (st 0x11 0x01 false false true false) 0x11 0x80 false false true false = true := by decide
theorem test_T3_rrA :
    leaves (.rrA 0x60) (st 0x11 0x03 false false true false) 0x81 0x03 false false true false = true := by decide
theorem test_T4_rrc :
    leaves (.rrc 0x60) (st 0x11 0x01 false false true false) 0x11 0x00 true false true false = true := by decide
theorem test_T5_rrc :
    leaves (.rrc 0x60) (st 0x11 0x00 true false true false) 0x11 0x80 false false true false = true := by decide
theorem test_T7_rrcA :
    leaves (.rrcA 0x60) (st 0x11 0x02 true false true false) 0x81 0x02 false false true false = true := by decide
theorem test_T9_rl :
    leaves (.rl 0x60) (st 0x11 0x80 false false true false) 0x11 0x01 false false true false = true := by decide
theorem test_T11_rlA :
    leaves (.rlA 0x60) (st 0x11 0xC0 false false true false) 0x81 0xC0 false false true false = true := by decide
theorem test_T12_rlc :
    leaves (.rlc 0x60) (st 0x11 0x80 false false true false) 0x11 0x00 true false true false = true := by decide
theorem test_T13_rlc :
    leaves (.rlc 0x60) (st 0x11 0x00 true false true false) 0x11 0x01 false false true false = true := by decide
theorem test_T15_rlcA :
    leaves (.rlcA 0x60) (st 0x11 0x40 true false true false) 0x81 0x40 false false true false = true := by decide
theorem test_M1_movA :
    leaves (.movA 0x60) (st 0x11 0x00 false false false false) 0x00 0x00 false false false false = true := by decide
theorem test_M2_movM :
    leaves (.movM 0x60) (st 0xA5 0x11 false false false false) 0xA5 0xA5 false false false false = true := by decide
theorem test_M4_movX :
    leaves (.movX 0xFF) (st 0x00 0x00 false false false false) 0xFF 0x00 false false false false = true := by decide
theorem test_B2_clrBit :
    leaves (.clrBit 0x60 7) (st 0x00 0xFF false false false false) 0x00 0x7F false false false false = true := by
  decide
theorem test_B5_setBit :
    leaves (.setBit 0x60 7) (st 0x00 0x00 false false false false) 0x00 0x80 false false false false = true := by
  decide
theorem test_X3_clrAll :
    leaves (.clrAll 0x60) (st 0x00 0xA5 false false false false) 0x00 0x00 false false false false = true := by decide
theorem test_X5_setAll :
    leaves (.setAll 0x60) (st 0x00 0x00 false false false false) 0x00 0xFF false false false false = true := by decide
theorem test_X12_swap :
    leaves (.swap 0x60) (st 0x00 0xA5 false false false false) 0x00 0x5A false false false false = true := by decide
theorem test_X13_swapA :
    leaves (.swapA 0x60) (st 0x00 0x1F false false false false) 0xF1 0x1F false false false false = true := by decide
theorem test_X1_nop :
    leaves (.nop) (st 0x12 0x34 true true true true) 0x12 0x34 true true true true = true := by decide

theorem test_J1_jmp : goesTo (.jmp 0xABC) (stAt 0x010 0x11 0x00) 0xABC 2 0x11 0x00 = true := by decide
theorem test_J11_sz : goesTo (.sz 0x60) (stAt 0x100 0x11 0x00) 0x102 2 0x11 0x00 = true := by decide
theorem test_J37_sz : goesTo (.sz 0x60) (stAt 0xFFF 0x11 0x00) 0x001 2 0x11 0x00 = true := by decide
theorem test_J13_szA : goesTo (.szA 0x60) (stAt 0x100 0x11 0x00) 0x102 2 0x00 0x00 = true := by decide
theorem test_J14_szA : goesTo (.szA 0x60) (stAt 0x100 0x11 0x80) 0x101 1 0x80 0x80 = true := by decide
theorem test_J17_szBit : goesTo (.szBit 0x60 7) (stAt 0x100 0x11 0x7F) 0x102 2 0x11 0x7F = true := by decide
theorem test_J18_szBit : goesTo (.szBit 0x60 7) (stAt 0x100 0x11 0x80) 0x101 1 0x11 0x80 = true := by decide
theorem test_J19_snzBit : goesTo (.snzBit 0x60 0) (stAt 0x100 0x11 0xFE) 0x101 1 0x11 0xFE = true := by decide
theorem test_J20_snzBit : goesTo (.snzBit 0x60 0) (stAt 0x100 0x11 0x01) 0x102 2 0x11 0x01 = true := by decide
theorem test_J26_siz : goesTo (.siz 0x60) (stAt 0x100 0x11 0xFF) 0x102 2 0x11 0x00 = true := by decide
theorem test_J28_siz : goesTo (.siz 0x60) (stAt 0x100 0x11 0xFE) 0x101 1 0x11 0xFF = true := by decide
theorem test_J29_sdz : goesTo (.sdz 0x60) (stAt 0x100 0x11 0x01) 0x102 2 0x11 0x00 = true := by decide
theorem test_J38_sdz : goesTo (.sdz 0x06) (stAt 0x1FF 0x11 0x00) 0x2FF 2 0x11 0x00 = true := by decide
theorem test_J32_sizA : goesTo (.sizA 0x60) (stAt 0x100 0x11 0xFF) 0x102 2 0x00 0xFF = true := by decide
theorem test_J33_sizA : goesTo (.sizA 0x60) (stAt 0x100 0x11 0x10) 0x101 1 0x11 0x10 = true := by decide
theorem test_J34_sdzA : goesTo (.sdzA 0x60) (stAt 0x100 0x11 0x01) 0x102 2 0x00 0x01 = true := by decide
theorem test_J35_sdzA : goesTo (.sdzA 0x60) (stAt 0x100 0x11 0x00) 0x101 1 0xFF 0x00 = true := by decide
theorem test_A55_addM_pcl : goesTo (.addM 0x06) (stAt 0x2FF 0x10 0x00) 0x310 2 0x10 0x00 = true := by decide
theorem test_M10_movM_pcl : goesTo (.movM 0x06) (stAt 0x1FF 0x40 0x00) 0x240 2 0x40 0x00 = true := by decide
theorem test_M7_movA_pcl : goesTo (.movA 0x06) (stAt 0x1FF 0x11 0x00) 0x200 1 0x00 0x00 = true := by decide
theorem test_B19_setBit_pcl : goesTo (.setBit 0x06 7) (stAt 0x210 0x00 0x00) 0x291 2 0x00 0x00 = true := by decide
theorem test_X11_clrAll_pcl : goesTo (.clrAll 0x06) (stAt 0x3FF 0x00 0x00) 0x400 2 0x00 0x00 = true := by decide

/-- J5 (with R29): the seventh CALL loses the oldest entry. -/
theorem test_J5_call :
    gives (.call 0x300) { stAt 0x123 0 0 with stk := [6, 5, 4, 3, 2, 1] }
      (fun t => decide (t.pc = 0x300) && decide (t.stk = [0x124, 6, 5, 4, 3, 2]) && decide (t.cycles = 2)) = true := by
  decide
theorem test_J4_call :
    gives (.call 0x000) (stAt 0xFFF 0 0) (fun t => decide (t.pc = 0) && decide (t.stk = [0x000])) = true := by decide
theorem test_J6_ret :
    gives .ret { stAt 0x300 0x55 0 with stk := [0x124, 0x050] }
      (fun t => decide (t.pc = 0x124) && decide (t.stk = [0x050]) && decide (t.acc = 0x55)) = true := by decide
theorem test_J7_ret : exec .ret (stAt 0x300 0 0) = .refused .emptyStack := rfl
theorem test_J8_retX :
    gives (.retX 0x3F) { stAt 0x300 0x55 0 with stk := [0x124] }
      (fun t => decide (t.pc = 0x124) && decide (t.stk = []) && decide (t.acc = 0x3F)) = true := by decide
theorem test_J9_reti :
    gives .reti { stAt 0x00E 0 0 with stk := [0x124], en := { SourceBits.none with t0 := true } }
      (fun t => decide (t.pc = 0x124) && decide (t.stk = []) && decide (t.intc0 = 0x09)) = true := by decide
theorem test_Q3_tabrdc :
    gives (.tabrdc 0x60) { stAt 0x2FF 0 0 with pm := [(0x200, 0x1111), (0x300, 0x5A5A)] }
      (fun t => decide (Memory.read t.ram 0x60 = some 0x5A) && decide (t.tblh = 0x5A) && decide (t.cycles = 2)) =
      true := by decide
theorem test_Q5_tabrdc :
    gives (.tabrdc 0x07) { stAt 0x210 0 0 with tblp := 0xA5, pm := [(0x2A5, 0x1234)] }
      (fun t => decide (t.tblp = 0x34) && decide (t.tblh = 0x12)) = true := by decide
theorem test_Q2_tabrdl :
    gives (.tabrdl 0x60) { stAt 0x210 0 0 with tblp := 0xA5, pm := [(0xFA5, 0x7FFF)] }
      (fun t => decide (Memory.read t.ram 0x60 = some 0xFF) && decide (t.tblh = 0x7F)) = true := by decide
theorem test_Q4_tabrdl :
    gives (.tabrdl 0x60) { stAt 0xFFF 0 0 with pm := [(0xF00, 0x0001)] }
      (fun t => decide (Memory.read t.ram 0x60 = some 0x01) && decide (t.tblh = 0) && decide (t.pc = 0)) = true := by
  decide

/-- A state with the preclear option at `k`, TO and PD set and a watchdog count of 1234. -/
def wd (k : Config.ClrWdtTimes) : State :=
  { State.reset with
    tof := true, pdf := true, wdtCnt := 1234
    opt := { Config.Options.standard with clrWdtTimes := k } }

theorem test_X16_clrWdt :
    gives .clrWdt (wd .one) (fun t => !t.tof && !t.pdf && decide (t.wdtCnt = 0)) = true := by decide
theorem test_X17_clrWdt : gives .clrWdt (wd .two) (fun t => t.tof && t.pdf && decide (t.wdtCnt = 1234)) = true := by
  decide
theorem test_X19_clrWdt1 :
    gives .clrWdt1 (wd .two) (fun t => t.tof && t.wdt1Done && !t.wdt2Done && decide (t.wdtCnt = 1234)) = true := by
  decide
theorem test_X22_clrWdt1 : gives .clrWdt1 (wd .one) (fun t => t.tof && !t.wdt1Done) = true := by decide
theorem test_X20_clrWdt2 :
    gives .clrWdt2 { wd .two with wdt1Done := true }
      (fun t => !t.tof && !t.pdf && !t.wdt1Done && !t.wdt2Done && decide (t.wdtCnt = 0)) = true := by decide
theorem test_X23_halt :
    gives .halt { wd .one with pc := 0x030 }
      (fun t => decide (t.pc = 0x031) && !t.tof && t.pdf && t.halted && decide (t.wdtCnt = 0)) = true := by decide

/-! ## The access path and what it refuses -/

/-- A53, L24, T19 (R35), A50 (R161), J39 (R26), A58 (R92), M36 (R87), K11 (R336). -/
theorem test_refused :
    exec (.addM 0x0A) (stAt 0x100 1 0) = .refused .statusDest ∧
    exec (.andM 0x0A) (stAt 0x100 1 0) = .refused .statusDest ∧
    exec (.rlc 0x0A) (stAt 0x100 1 0) = .refused .statusDest ∧
    exec (.daa 0x60) (st 0x1B 0 false true false false) = .refused .daaCorner ∧
    exec (.sdz 0x06) (stAt 0x200 0 0) = .refused .pclSkip ∧
    exec (.addA 0x30) (stAt 0x100 1 0) = .refused (.absentData 0x30) ∧
    exec (.movA 0x02) { stAt 0x100 1 0 with bp := true, mp1 := 0x61 } = .refused (.bank1Hole 0x61) ∧
    exec (.setBit 0x0E 4) (stAt 0x100 0 0) = .refused .timerModeUnused :=
  ⟨rfl, rfl, rfl, rfl, rfl, rfl, rfl, rfl⟩

/-- A57: a read of RAM that nothing has written. -/
theorem test_A57_unwritten : exec (.addA 0x61) (stAt 0x100 1 0) = .fault (.unwrittenRam 0x61) := rfl

/-- M13, M14, M15, M16, M17: what each control register reads after FFH (A7H) is written. -/
theorem test_written_registers_read :
    gives (.movM 0x0B) (stAt 0x100 0xFF 0) (fun t => decide (t.intc0 = 0x7F)) = true ∧
    gives (.movM 0x1E) (stAt 0x100 0xFF 0) (fun t => decide (t.intc1 = 0x77)) = true ∧
    gives (.movM 0x09) (stAt 0x100 0xFF 0) (fun t => decide (t.rtcc = 0x1F)) = true ∧
    gives (.movM 0x0E) (stAt 0x100 0xA7 0) (fun t => decide (t.t0.control = 0xA0)) = true ∧
    gives (.movM 0x04) (stAt 0x100 0xFF 0) (fun t => t.bp) = true := by decide

/-- M27, M29, M31, M32 (R84 to R87). -/
theorem test_pointers :
    gives (.movA 0x00) { stAt 0x100 0x11 0x77 with mp0 := 0x02, mp1 := 0x60 } (fun t => decide (t.acc = 0)) = true ∧
    gives (.movM 0x00) { stAt 0x100 0x33 0 with mp0 := 0x01 } (fun t => decide (t.mp0 = 0x33)) = true ∧
    exec (.movM 0x00) { stAt 0x100 0 0 with mp0 := 0x40, bp := true } = .refused (.absentData 0x40) ∧
    gives (.movM 0x02) { stAt 0x100 0xAB 0 with mp1 := 0x40, bp := true }
      (fun t => decide (Memory.read t.lcd 0x40 = some 0xB)) = true :=
  ⟨rfl, rfl, rfl, rfl⟩

/-- B18: SET [12H].0 while PA7 is driven low from outside (R365). -/
theorem test_B18_port :
    let s := { stAt 0x100 0 0 with paDriven := 0x80, paLevel := 0x7F }
    gives (.setBit 0x12 0) s (fun t => decide (t.paLatch = 0x7F)) = true := by decide

/-! ## Events -/

/-- The step answers a next state with the property. -/
def steps (s : State) (p : State → Bool) : Bool :=
  match step s with
  | .next t => p t
  | .fault _ => false
  | .refused _ => false

/-- The state with INTC0 and INTC1 at the given values. -/
def intc (a b : Byte) (s : State) : State := (s.setIntc0 a).setIntc1 b

/-- A running machine at 100H. -/
def s1 : State := st 0x12 0x34 true false false false

/-- E1: the edge sets EIF0, the next step enters at 004H. -/
theorem test_E1_int0 :
    steps { intc 0x03 0 (stAt 0x123 0 0) with env := [.pads 0 0xFF 0xFE 0 0xF] }
      (fun t => decide (t.intc0 = 0x13) &&
        steps t (fun u => decide (u.stk = [0x123]) && decide (u.intc0 = 0x02) && decide (u.pc = 0x004))) = true := by
  decide

/-- E1 as an event: the core enters at 004H with a cycle of the system clock still to come, and a `core` event after
it runs the handler's first instruction (log 6). -/
theorem test_entry_with_events_to_come :
    steps { intc 0x13 0 (stAt 0x123 0 0) with env := [.core, .sysClock, .core], pm := [(0x004, 0x35A5)] }
      (fun t => decide (t.pc = 0x004) && decide (t.intc0 = 0x02) && decide (t.env = [.sysClock, .core]) &&
        steps t (fun u => decide (u.tPhase = 1) && decide (u.env = [.core]) &&
          steps u (fun v => decide (v.acc = 0xA5) && decide (v.pc = 0x005)))) = true := by decide

/-- R7: one unit alone takes its clock: the RTC's time-out comes before the time base's (log 15). -/
theorem test_units_one_by_one :
    steps { s1 with env := [.unit .rtc, .unit .timeBase], rtcCnt := 32767, tbCnt := 4095 }
      (fun t => decide (t.intc1 = 0x40) && steps t (fun u => decide (u.intc1 = 0x60))) = true := by decide

/-- R124: a step under another encoding runs the instruction that encoding reads (decision D1). -/
theorem test_other_encoding :
    (match nextStep (fun _ => .ok (.movX 0x5A)) { s1 with pm := [(0x100, 0x7FFF)] } with
      | .next t => decide (t.acc = 0x5A)
      | .fault _ => false
      | .refused _ => false) = true := by decide

/-- H10: the watchdog disabled, no wake-up bit, no event that could set a flag: halted for good; not so with the
watchdog enabled, a wake-up bit, a RES to come, or a time base to come whose flag is 0. -/
theorem test_H10_haltedForGood :
    let o := { Config.Options.standard with wdtEn := false }
    let s := { s1 with halted := true, opt := o, env := [.fsCycle, .supply true], req := ⟨true, true, true, true, true, true⟩ }
    s.haltedForGood = true ∧ ({ s with env := [] } : State).haltedForGood = true ∧
    ({ s1 with halted := true } : State).haltedForGood = false ∧
    ({ s with opt := { o with paWake := 0x80 } } : State).haltedForGood = false ∧
    ({ s with env := [.res] } : State).haltedForGood = false ∧
    ({ s with req := SourceBits.none } : State).haltedForGood = false := by decide

/-- E7: of all six requests INT0 is served first. -/
theorem test_E7_priority :
    steps (intc 0x7F 0x77 (stAt 0x026 0 0))
      (fun t => decide (t.stk = [0x026]) && decide (t.intc0 = 0x6E) && decide (t.intc1 = 0x77) &&
        decide (t.pc = 0x004)) = true := by decide

/-- E8: one count event of timer 0, then the entry. -/
theorem test_E8_timer0 :
    steps { intc 0x09 0 (stAt 0x150 0 0) with
        t0 := { (Timer.afterReset 0xFF 0x40).setControl 0xB0 with cnt := 0xFF }, tPhase := 3, env := [.sysClock] }
      (fun t => decide (t.t0.cnt = 0x40) && decide (t.intc0 = 0x49) &&
        steps t (fun u => decide (u.stk = [0x150]) && decide (u.intc0 = 0x08) && decide (u.pc = 0x00C))) = true := by
  decide

/-- H4 and H6: a request wakes the chip only when its flag goes from 0 to 1. -/
theorem test_H4_H6_wakeup :
    let s := { intc 0x01 0 (stAt 0x031 0 0) with halted := true, env := [.pads 0 0xFF 0xFE 0 0xF] }
    let r := { intc 0x10 0 (stAt 0x031 0 0) with halted := true, env := [.pads 0 0xFF 0xFE 0 0xF] }
    steps s (fun t => !t.halted && decide (t.intc0 = 0x11) && decide (t.pc = 0x031)) = true ∧
    steps r (fun t => t.halted && decide (t.intc0 = 0x10)) = true := by decide

/-- H1 and H2: PA2 falls, with and without option 7. -/
theorem test_H1_H2_paWake :
    let s (w : Byte) : State :=
      { State.reset with
        halted := true, opt := { Config.Options.standard with paWake := w }
        env := [.pads 0x04 0xFB 0xFF 0 0xF] }
    steps (s 0x04) (fun t => !t.halted) = true ∧ steps (s 0xFB) (fun t => t.halted) = true := by decide

/-- R430: a JMP to its own address is reached by a running core, not in a HALT before it and not where an interrupt is
taken first. -/
theorem test_idles :
    let s := { s1 with pm := [(0x100, 0x4100)] }
    s.idles = true ∧ ({ s with halted := true } : State).idles = false ∧ (intc 0x13 0 s).idles = false ∧
    (intc 0x12 0 s).idles = true ∧ ({ s with pm := [(0x100, 0x4101)] } : State).idles = false := by decide

/-- R322: the fall of a BZ pad in HALT wakes where option 7 has the pin, and only there. -/
theorem test_buzzer_pad_wakes :
    let o := { Config.Options.standard with pa01Bz := true, paLowCmos := true, wdtEn := false }
    let s (w : Byte) : State :=
      { State.reset with halted := true, paLatch := 0, bzCnt := 3, opt := { o with paWake := w }, env := [.fsCycle] }
    steps (s 0x01) (fun t => !t.halted) = true ∧ steps (s 0xFE) (fun t => !t.halted) = false ∧
    steps { s 0x01 with bzCnt := 2 } (fun t => t.halted) = true := by decide

/-- R361, D16: PA0 and PA3 as NMOS pins read by the NMOS constraints although option 12 gives them BZ and PFD. -/
theorem test_nmos_under_shared_function :
    let s : State := { State.reset with
      paLatch := 0xF6, paDriven := 0x02, paLevel := 0x00
      opt := { Config.Options.standard with pa01Bz := true, pa3Pfd := true } }
    s.paPad 0xFF 0 = false ∧ s.paPad 0xFF 1 = false ∧ s.paPad 0x00 2 = true ∧ s.paPad 0xFF 3 = false := by decide

/-- The start of Z1 to Z5. -/
def z (t p : Bool) (e : Event) : State :=
  { intc 0x0F 0x07 (st 0x5A 0x77 true false true false) with
    bp := true, stk := [0x123, 0x045], tof := t, pdf := p, paLatch := 0x0F, rt := 2, lvdc := true, qosc := true
    t0 := { (Timer.afterReset 0x33 0x10).setControl 0xB0 with cnt := 0x33 }, env := [e] }

theorem test_Z2_wdt :
    steps { z false false .fsCycle with wdtCnt := 0xFFFF }
      (fun t => t.tof && !t.pdf && decide (t.intc0 = 0) && decide (t.t0.control = 0x08) && decide (t.t0.cnt = 0x33) &&
        decide (t.rtcc = 0x07) && decide (t.acc = 0x5A)) = true := by decide
theorem test_Z5_wdt_in_halt :
    steps { z false true .fsCycle with wdtCnt := 0xFFFF, halted := true }
      (fun t => t.tof && t.pdf && !t.halted && decide (t.pc = 0) && decide (t.stk = []) && decide (t.intc0 = 0x0F) &&
        decide (t.t0.control = 0xB0) && decide (t.rtcc = 0x1A)) = true := by decide
theorem test_Z4_res_in_halt :
    steps { z false true .res with halted := true }
      (fun t => !t.tof && t.pdf && decide (t.paLatch = 0xFF) && decide (Memory.read t.ram 0x60 = some 0x77)) = true := by
  decide

/-- K1: period 256 - 254. -/
theorem test_K1_period :
    let t := (Timer.afterReset 0xFE 0xFE).setControl 0xB0
    (t.countEvents 1).1.cnt = 0xFF ∧ (t.countEvents 5).1.cnt = 0xFF ∧ (t.countEvents 5).2 = 2 := by decide

/-- K5 and K6: the active edge of TMR0. -/
theorem test_K5_K6_edges :
    (((Timer.afterReset 0x10 0x10).setControl 0x58).pinEdge true).2 = false ∧
    (((Timer.afterReset 0x10 0x10).setControl 0x58).pinEdge false).2 = true ∧
    (((Timer.afterReset 0x10 0x10).setControl 0x50).pinEdge true).2 = true ∧
    (((Timer.afterReset 0x10 0x10).setControl 0x50).pinEdge false).2 = false := by decide

/-- K7: the measurement ends with TON clear and TMR0C reading E8H. -/
theorem test_K7_pulse :
    let t := (Timer.afterReset 0 0).setControl 0xF8
    ((t.pinEdge true).1.pinEdge false).1.control = 0xE8 ∧ (t.pinEdge true).1.countsInternal = true := by decide

/-- K10: the overflow of timer 0 counts timer 1. -/
theorem test_K10_cascade :
    let s := { stAt 0x150 0 0 with
      t0 := { (Timer.afterReset 0xFF 0).setControl 0xB0 with cnt := 0xFF }
      t1 := { (Timer.afterReset 0xFF 0).setControl 0x90 with cnt := 0xFF } }
    (countTimer0 s).t0.cnt = 0 ∧ (countTimer0 s).t1.cnt = 0 ∧ (countTimer0 s).intc0 = 0x40 ∧
      (countTimer0 s).intc1 = 0x10 := by decide

/-! ## Witnesses of the obligations' hypotheses

Each shows a state and operands that meet the hypotheses of the statement it names, clause by clause. -/

/-- The state of most witnesses: ACC = 12H, [60H] = 34H. -/
def s0 : State := s1

theorem test_wit_EncodeOfDecodedIsTheWord : decode 0x4ABC = .ok (.jmp 0xABC) := by decide

theorem test_wit_UnassignedWordsExactly :
    decode 0x0006 = .ok .halt ∧ decode 0x0007 = .error .unassignedSub ∧ decode 0x00FF = .error .unassignedSub ∧
    decode 0x2C00 = .error .unassignedSlot ∧ decode 0x2FFF = .error .unassignedSlot ∧
    decode 0x3700 = .error .unassignedSlot ∧ decode 0x3FFF = .error .unassignedSlot := by decide

/-- `s0` with a word at its pc. -/
def placed (w : PWord) (o : Config.Options) : State := { s0 with pm := [(0x100, w)], opt := o }

theorem test_wit_StepRunsDecodedInstruction :
    let s := placed 0x3034 Config.Options.standard
    s.env = [] ∧ s.halted = false ∧ s.pending = none ∧ fetchWord s = some 0x3034 ∧
      decode 0x3034 = .ok (.addX 0x34) ∧ (∃ t, exec (.addX 0x34) (settled s) = .next t) ∧ s.opt.timing = .free :=
  ⟨rfl, rfl, rfl, rfl, by decide, ⟨_, rfl⟩, rfl⟩
theorem test_wit_StepRunsDecodedInstruction_cycleExact :
    let s := placed 0x3034 { Config.Options.standard with timing := .cycleExact }
    s.pending = none ∧ fetchWord s = some 0x3034 ∧ (∃ t, exec (.addX 0x34) (settled s) = .next t) ∧
      s.opt.timing = .cycleExact := ⟨rfl, rfl, ⟨_, rfl⟩, rfl⟩
theorem test_wit_StepRunsDecodedInstruction_fault :
    let s := placed 0x0161 Config.Options.standard
    fetchWord s = some 0x0161 ∧ decode 0x0161 = .ok (.addA 0x61) ∧
      exec (.addA 0x61) (settled s) = .fault (.unwrittenRam 0x61) := ⟨rfl, by decide, rfl⟩
theorem test_wit_StepRunsDecodedInstruction_refused :
    let s := placed 0x0001 Config.Options.standard
    fetchWord s = some 0x0001 ∧ decode 0x0001 = .ok .ret ∧ exec .ret (settled s) = .refused .emptyStack :=
  ⟨rfl, by decide, rfl⟩

theorem test_wit_PlacedWordIsRunOrRefused :
    (∃ t, exec .nop (settled { s0 with pm := Memory.write s0.pm s0.pc.toNat 0x0000, halted := false, env := [] }) =
      .next t) ∧ decode 0x0000 = .ok .nop ∧ s0.opt.timing = .free ∧ decode 0x0007 = .error .unassignedSub ∧
    s0.env = [] ∧ s0.halted = false ∧ s0.pending = none ∧ fetchWord s0 = none :=
  ⟨⟨_, rfl⟩, by decide, rfl, by decide, rfl, rfl, rfl, rfl⟩

/-- For AccArithmeticFromMemory, AccLogicFromMemory, AccMoveAndRotateFromMemory. -/
theorem test_wit_AccFromMemory : ∃ s1, memRead 0x60 (fetched s0) = .ok (0x34, s1) := ⟨_, rfl⟩

/-- For TestSkips and AccumulatorSkips: a byte that skips, for each test. -/
theorem test_wit_TestSkips_AccumulatorSkips :
    (∃ s1, memRead 0x60 (fetched (stAt 0xFFF 0 0x00)) = .ok (0x00, s1)) ∧
    (∃ s1, memRead 0x60 (fetched (stAt 0xFFF 0 0x01)) = .ok (0x01, s1)) ∧
    (∃ s1, memRead 0x60 (fetched (stAt 0xFFF 0 0xFF)) = .ok (0xFF, s1)) ∧
    (∃ s1, memRead 0x60 (fetched (stAt 0xFFF 0 0x7F)) = .ok (0x7F, s1)) :=
  ⟨⟨_, rfl⟩, ⟨_, rfl⟩, ⟨_, rfl⟩, ⟨_, rfl⟩⟩

/-- For MemoryArithmetic, MemoryLogic, MemoryRotateThroughCarry, MemoryUpdates: the destination 60H is read and takes any
result. -/
theorem test_wit_MemoryForms (r : Byte) :
    ∃ s1 s2, resolve 0x60 s0 = .ok (.data 0x60) ∧ Loc.data 0x60 ≠ Loc.statusReg ∧
      readLoc (.data 0x60) (fetched s0) = .ok (0x34, s1) ∧ storeLoc (.data 0x60) r s1 = .ok s2 :=
  ⟨_, _, rfl, by decide, rfl, rfl⟩

/-- For the refused clauses of MemoryArithmetic, MemoryLogic, MemoryRotateThroughCarry, DecimalAdjust, directly and
through MP0. -/
theorem test_wit_StatusDestination :
    resolve 0x0A s0 = .ok Loc.statusReg ∧ resolve 0x00 { s0 with mp0 := 0x0A } = .ok Loc.statusReg := ⟨rfl, rfl⟩

theorem test_wit_MemoryStores (v : Byte) :
    ∃ s2, resolve 0xFF s0 = .ok (.data 0xFF) ∧ storeLoc (.data 0xFF) v (fetched s0) = .ok s2 := ⟨_, rfl, rfl⟩

theorem test_wit_DecimalAdjust_corner :
    let s := st 0x1A 0 false true false false
    resolve 0x60 s = .ok (.data 0x60) ∧ Loc.data 0x60 ≠ Loc.statusReg ∧ s.acc.toNat % 16 = 10 ∧
      s.acc.toNat / 16 = 1 ∧ 9 < 10 ∧ s.flags.ac = true := ⟨rfl, by decide, by decide, by decide, by decide, rfl⟩
theorem test_wit_DecimalAdjust_both_adjusted :
    let s := st 0x9A 0 false false false false
    s.acc.toNat % 16 = 10 ∧ s.acc.toNat / 16 = 9 ∧ s.flags.ac = false ∧ 0 = (10 + 6) % 16 ∧ 0 = (9 + 6 + 1) % 16 ∧
      ∃ s2, storeLoc (.data 0x60) (BitVec.ofNat 8 (16 * 0 + 0)) (fetched s) = .ok s2 :=
  ⟨by decide, by decide, rfl, by decide, by decide, ⟨_, rfl⟩⟩
theorem test_wit_DecimalAdjust_none_adjusted :
    let s := st 0x99 0 false false false false
    s.acc.toNat % 16 = 9 ∧ s.acc.toNat / 16 = 9 ∧ s.flags.ac = false ∧ s.flags.c = false ∧
      ∃ s2, storeLoc (.data 0x60) (BitVec.ofNat 8 (16 * 9 + 9)) (fetched s) = .ok s2 :=
  ⟨by decide, by decide, rfl, rfl, ⟨_, rfl⟩⟩

theorem test_wit_DaaAfterAddOfBcdIsDecimalSum :
    (0x99 : Byte).toNat % 16 ≤ 9 ∧ (0x99 : Byte).toNat / 16 ≤ 9 ∧ (st 0x99 0 false false false false).acc = 0x99 ∧
      0x60 ≤ (0x60 : Byte).toNat := ⟨by decide, by decide, rfl, by decide⟩

theorem test_wit_MemorySkips_pcl :
    resolve 0x06 (stAt 0x1FE 0 0) = .ok Loc.pcl ∧
    (∃ s1, readLoc Loc.pcl (fetched (stAt 0x1FE 0 0)) = .ok (0xFF, s1)) ∧
    (∃ s1, readLoc Loc.pcl (fetched (stAt 0x200 0 0)) = .ok (0x01, s1)) := ⟨rfl, ⟨_, rfl⟩, ⟨_, rfl⟩⟩
theorem test_wit_MemorySkips_ram :
    Loc.data 0x60 ≠ Loc.pcl ∧
    (∃ s1 s2, readLoc (.data 0x60) (fetched (stAt 0 0 0xFF)) = .ok (0xFF, s1) ∧
      storeLoc (.data 0x60) (0xFF + 1) s1 = .ok s2) ∧
    (∃ s1 s2, readLoc (.data 0x60) (fetched (stAt 0 0 0xFE)) = .ok (0xFE, s1) ∧
      storeLoc (.data 0x60) (0xFE + 1) s1 = .ok s2) ∧
    (∃ s1 s2, readLoc (.data 0x60) (fetched (stAt 0 0 0x01)) = .ok (0x01, s1) ∧
      storeLoc (.data 0x60) (0x01 - 1) s1 = .ok s2) ∧
    (∃ s1 s2, readLoc (.data 0x60) (fetched (stAt 0 0 0x02)) = .ok (0x02, s1) ∧
      storeLoc (.data 0x60) (0x02 - 1) s1 = .ok s2) :=
  ⟨by decide, ⟨_, _, rfl, rfl⟩, ⟨_, _, rfl, rfl⟩, ⟨_, _, rfl, rfl⟩, ⟨_, _, rfl, rfl⟩⟩

theorem test_wit_JumpAndCall :
    ({ s0 with stk := [5, 4, 3, 2, 1] } : State).stk.length < 6 ∧
    ({ s0 with stk := [6, 5, 4, 3, 2, 1] } : State).stk.length = 6 := by decide

theorem test_wit_Returns : ({ s0 with stk := [0x124] } : State).stk = 0x124 :: [] ∧ s0.stk = [] := ⟨rfl, rfl⟩

theorem test_wit_TableReads :
    let s := { s0 with pc := 0x2FF, tblp := 0xFF, pm := [(0x3FF, 0x1234), (0xFFF, 0x1234)] }
    (∃ s1, resolve 0x60 s = .ok (.data 0x60) ∧
      writeLoc (.data 0x60) (BitVec.ofNat 8 ((0x1234 : PWord).toNat % 256)) (fetched s) = .ok s1) ∧
    Memory.read s.pm (256 * ((s.pc + 1).toNat / 256) + s.tblp.toNat) = some 0x1234 ∧
    Memory.read s.pm (0xF00 + s.tblp.toNat) = some 0x1234 ∧ Loc.data 0x60 ≠ Loc.pcl :=
  ⟨⟨_, rfl, rfl⟩, by decide, by decide, by decide⟩

theorem test_wit_ClearWatchdogInstructions :
    (wd .one).opt.wdtEn = true ∧ (wd .one).opt.clrWdtTimes = .one ∧ (wd .two).opt.clrWdtTimes = .two ∧
    (wd .two).wdt1Done = false ∧ (wd .two).wdt2Done = false ∧
    ({ wd .two with wdt1Done := true } : State).wdt1Done = true ∧
    ({ wd .two with wdt2Done := true } : State).wdt2Done = true ∧
    ({ s0 with opt := { Config.Options.standard with wdtEn := false } } : State).opt.wdtEn = false := by decide

theorem test_wit_PreclearPairClears :
    (wd .two).opt.wdtEn = true ∧ (wd .two).opt.clrWdtTimes = .two ∧ (wd .two).wdt1Done = false ∧
      (wd .two).wdt2Done = false := by decide

/-- MP1 = `p` and BP = `b`. -/
def mp1At (p : Byte) (b : Bool) : State := { s0 with mp1 := p, bp := b }

/-- For ResolveFollowsItsTable, at the ends of each range. -/
theorem test_wit_ResolveFollowsItsTable :
    resolve 0x01 s0 = .ok (.data 0x01) ∧ resolve 0xFF s0 = .ok (.data 0xFF) ∧
    resolve 0x00 { s0 with mp0 := 0x02 } = .ok .null ∧ resolve 0x00 { s0 with mp0 := 0x03 } = .ok (.data 0x03) ∧
    resolve 0x02 (mp1At 0x02 false) = .ok .null ∧ resolve 0x02 (mp1At 0x01 false) = .ok (.data 0x01) ∧
    resolve 0x02 (mp1At 0x40 true) = .ok (.lcd 0x40) ∧ resolve 0x02 (mp1At 0x60 true) = .ok (.lcd 0x60) ∧
    resolve 0x02 (mp1At 0x3F true) = .error (.refused (.bank1Hole 0x3F)) ∧
    resolve 0x02 (mp1At 0x61 true) = .error (.refused (.bank1Hole 0x61)) :=
  ⟨rfl, rfl, rfl, rfl, rfl, rfl, rfl, rfl, rfl, rfl⟩

theorem test_wit_IndirectFormsActLikeDirectOnes :
    Instr.addA ∈ Instr.memoryForms 0 ∧ (0x60 : Byte) ≠ 0x00 ∧ (0x60 : Byte) ≠ 0x02 ∧
      ({ s0 with mp0 := 0x60 } : State).mp0 = 0x60 ∧ (mp1At 0x60 false).mp1 = 0x60 ∧ (mp1At 0x60 false).bp = false :=
  ⟨List.mem_cons_self, by decide, by decide, rfl, rfl, rfl⟩

theorem test_wit_ReadTable :
    memRead 0x20 s0 = .error (.refused (.absentData 0x20)) ∧ memRead 0x5F s0 = .error (.refused (.absentData 0x5F)) ∧
    Memory.read s0.ram (0x60 : Byte).toNat = some 0x34 ∧
    Memory.read ({ s0 with ram := [(0xFF, 0x56)] } : State).ram (0xFF : Byte).toNat = some 0x56 ∧
    (∃ n, Memory.read ({ mp1At 0x40 true with lcd := [(0x40, 0xB)] } : State).lcd (0x40 : Byte).toNat = some n) ∧
    (∃ n, Memory.read ({ mp1At 0x60 true with lcd := [(0x60, 0xB)] } : State).lcd (0x60 : Byte).toNat = some n) :=
  ⟨rfl, rfl, by decide, by decide, ⟨0xB, by decide⟩, ⟨0xB, by decide⟩⟩

/-- For ReadTable: the detector on with a low supply makes LVDO 1 (R370). -/
theorem test_wit_ReadTable_lvdo :
    let s := { s0 with lvdc := true, vddLow := true, opt := { Config.Options.standard with lvdEn := true } }
    s.lvdo = true ∧ ({ s with lvdc := false } : State).lvdo = false ∧ ({ s with vddLow := false } : State).lvdo = false :=
  ⟨rfl, rfl, rfl⟩

theorem test_wit_WriteTable :
    s0.t0.ton = false ∧ s0.t1.ton = false ∧ ({ s0.t0 with ton := true } : Timer).ton = true ∧
    (0x10 : Byte).getLsbD 4 = true ∧ (0x10 : Byte).getLsbD 6 = false ∧ (0x10 : Byte).getLsbD 7 = false ∧
    (0x00 : Byte).getLsbD 4 = false ∧ (0x50 : Byte).getLsbD 6 = true ∧ (0x90 : Byte).getLsbD 7 = true ∧
    (mp1At 0x40 true).bp = true ∧ 0x40 ≤ (mp1At 0x40 true).mp1.toNat ∧ (mp1At 0x60 true).mp1.toNat ≤ 0x60 := by
  decide

theorem test_wit_LcdNibbleComesBack :
    (mp1At 0x60 true).bp = true ∧ 0x40 ≤ (mp1At 0x60 true).mp1.toNat ∧ (mp1At 0x60 true).mp1.toNat ≤ 0x60 ∧
    3 < (mp1At 0x5F true).opt.lcdCom ∧ ¬ ((mp1At 0x5F true).opt.lcdCom = 4 ∧ (mp1At 0x5F true).mp1 = 0x60) := by
  decide

/-- For PadLevels and PortReadModifyWriteCopiesPads: the option records of their clauses and a pin of each kind. -/
theorem test_wit_PadLevels :
    let s := { s0 with paLatch := 0x0F, paDriven := 0x02, paLevel := 0x00 }
    s.opt.pa01Bz = false ∧ s.opt.pa3Pfd = false ∧ s.opt.paLowCmos = false ∧ s.opt.pullHigh = true ∧
    s.paLatch.getLsbD 7 = false ∧ s.paLatch.getLsbD 1 = true ∧ s.paDriven.getLsbD 1 = true ∧
    s.paDriven.getLsbD 0 = false ∧ s.paLevel.getLsbD 1 = false := by decide
theorem test_wit_PadLevels_options :
    let o := { Config.Options.standard with pa01Bz := true, pa3Pfd := true, paLowCmos := true, pullHigh := false }
    let s := { s0 with paLatch := 0x0A, opt := o }
    s.opt.pa01Bz = true ∧ s.opt.pa3Pfd = true ∧ s.opt.paLowCmos = true ∧ s.opt.pullHigh = false ∧
    s.paLatch.getLsbD 0 = false ∧ s.paLatch.getLsbD 1 = true ∧ s.paLatch.getLsbD 3 = true ∧ s.pfdTimerOn = false ∧
    ({ s with t0 := { s.t0 with ton := true } } : State).pfdTimerOn = true := by decide
/-- For PadLevels: PA2 next to BZ pins, PA3 next to them, and the PC pins in each case. -/
theorem test_wit_PadLevels_pc :
    let o := { Config.Options.standard with pa01Bz := true, pullHigh := false }
    let s := { s0 with pcLatch := 0x7, pcDriven := 0x1, pcLevel := 0xE, opt := o }
    2 ≤ 2 ∧ s.opt.pa3Pfd = false ∧ s.opt.pa01Bz = true ∧ s0.opt.pcCmos = false ∧ s.pcLatch.getLsbD 3 = false ∧
    s.pcLatch.getLsbD 0 = true ∧ s.pcDriven.getLsbD 0 = true ∧ s.pcDriven.getLsbD 1 = false ∧
    s0.opt.pullHigh = true ∧ s.opt.pullHigh = false ∧ s.pcPad 0 0 = false ∧ s.pcPad 0xF 1 = true ∧
    ({ s with opt := { o with pcCmos := true } } : State).opt.pcCmos = true := by decide

/-- For the six frame statements: NOP answers and names no destination; MOV [60H],A has one. -/
theorem test_wit_frames_nop :
    (∃ t, exec .nop s0 = .next t) ∧ storeTarget .nop s0 = none ∧ Instr.nop.writesAcc = false ∧
    Instr.nop.isTableRead = false ∧ Instr.nop.clearsWatchdog = false ∧ Instr.nop.flagUse = .none ∧
    Instr.nop.isSkip = false ∧ Instr.nop.isReturn = false := ⟨⟨_, rfl⟩, rfl, rfl, rfl, rfl, rfl, rfl, rfl⟩
theorem test_wit_frames_store :
    (∃ t, exec (.movM 0x60) s0 = .next t) ∧ storeTarget (.movM 0x60) s0 = some (.data 0x60) ∧
    (∃ t, exec (.movM 0x02) (mp1At 0x40 true) = .next t) ∧
    storeTarget (.movM 0x02) (mp1At 0x40 true) = some (.lcd 0x40) := ⟨⟨_, rfl⟩, rfl, ⟨_, rfl⟩, rfl⟩
theorem test_wit_FlagFrame_z_c :
    (∃ t, exec (.andX 0x0F) s0 = .next t) ∧ (Instr.andX 0x0F).flagUse = .z ∧
    (∃ t, exec (.rrcA 0x60) s0 = .next t) ∧ (Instr.rrcA 0x60).flagUse = .c := ⟨⟨_, rfl⟩, rfl, ⟨_, rfl⟩, rfl⟩
theorem test_wit_CyclesFollowTheTable :
    (∃ t, exec (.jmp 0xABC) s0 = .next t ∧ Instr.jmp 0xABC = .jmp t.pc) ∧
    (∃ t, exec (.tabrdl 0x60) s0 = .next t) ∧ (Instr.tabrdl 0x60).isTableRead = true ∧
    (∃ t, exec (.tabrdl 0x06) s0 = .next t) ∧ storeTarget (.tabrdl 0x06) s0 = some Loc.pcl ∧
    (∃ t, exec (.sz 0x60) s0 = .next t) ∧ (Instr.sz 0x60).isSkip = true ∧
    (∃ t, exec (.movM 0x06) s0 = .next t) ∧ storeTarget (.movM 0x06) s0 = some Loc.pcl :=
  ⟨⟨_, rfl, rfl⟩, ⟨_, rfl⟩, rfl, ⟨_, rfl⟩, rfl, ⟨_, rfl⟩, rfl, ⟨_, rfl⟩, rfl⟩

/-- For ProgramMemoryAndOptionsAreFixed and EveryStepKeepsLegalStates. -/
theorem test_wit_EveryStepKeepsLegalStates :
    (State.reset.withFetchWord 15 0x3034).legal = true ∧
    ∃ t, step (State.reset.withFetchWord 15 0x3034) = .next t := ⟨by decide, ⟨_, rfl⟩⟩

/-- For OnlyListedEventsChangeToAndPd: each of the five events changes TO or PD. -/
theorem test_wit_OnlyListedEventsChangeToAndPd :
    steps (State.reset.withFetchWord 15 0x0006) (fun t => t.pdf) = true ∧
    steps { s0 with env := [.fsCycle], wdtCnt := 0xFFFF } (fun t => t.tof) = true ∧
    steps { s0 with env := [.res], tof := true, halted := true } (fun t => !t.tof && t.pdf) = true ∧
    steps { s0 with env := [.powerOn ⟨0, 0, 0, 0, 0, s0.flags, 0, 0, 0, 0, false⟩], tof := true }
      (fun t => !t.tof) = true ∧
    steps { s0 with
        env := [.lowVoltage ⟨0, 0, 0, 0, 0, s0.flags, 0, 0, 0, 0, false⟩ true false]
        opt := { Config.Options.standard with lvrEn := true } } (fun t => t.tof) = true := by decide
theorem test_wit_OnlyListedEventsChangeToAndPd_core_and_unit :
    steps { placed 0x0006 Config.Options.standard with env := [.core] } (fun t => t.pdf) = true ∧
    steps { s0 with env := [.unit .watchdog], wdtCnt := 0xFFFF } (fun t => t.tof) = true := by decide

theorem test_wit_InterruptIsAcknowledgedAndEntered :
    let s := { intc 0x01 0x44 s0 with stk := [5, 4, 3, 2, 1] }
    s.env = [] ∧ s.halted = false ∧ s.emi = true ∧ s.stk.length < 6 ∧ s.en.get .rtc = true ∧ s.req.get .rtc = true ∧
      (∀ x : Source, x.priority < Source.priority .rtc → ¬ (s.en.get x = true ∧ s.req.get x = true)) :=
  ⟨rfl, rfl, rfl, by decide, rfl, rfl, by intro x; cases x <;> decide⟩
theorem test_wit_InterruptIsAcknowledgedAndEntered_core :
    ∃ u rest, ({ s0 with env := [.core, .fsCycle] } : State).env = .core :: rest ∧
      u = { { s0 with env := [.core, .fsCycle] } with env := rest } := ⟨_, _, rfl, rfl⟩
theorem test_wit_InterruptIsAcknowledgedAndEntered_held :
    (intc 0x7E 0x77 s0).emi = false ∧ 6 ≤ ({ intc 0x7F 0x77 s0 with stk := [6, 5, 4, 3, 2, 1] } : State).stk.length ∧
    (∀ x : Source, ¬ ((intc 0x71 0x70 s0).en.get x = true ∧ (intc 0x71 0x70 s0).req.get x = true)) :=
  ⟨rfl, by decide, by intro x; cases x <;> decide⟩

theorem test_wit_ReturnFromInterruptRestoresOnlyThePc :
    ({ s0 with stk := [5, 4, 3, 2, 1] } : State).stk.length < 6 := by decide

/-- For RequestFlagsStayUntilServedOrCleared: EIF0 goes from 1 to 0 in each of the four ways. -/
theorem test_wit_RequestFlagsStayUntilServedOrCleared :
    steps (intc 0x13 0 s0) (fun t => !t.req.int0) = true ∧
    steps { intc 0x10 0 s0 with pm := [(0x100, 0x280B)] } (fun t => !t.req.int0) = true ∧
    steps { intc 0x10 0 s0 with env := [.res] } (fun t => !t.req.int0) = true ∧
    steps { intc 0x10 0 s0 with env := [.fsCycle], wdtCnt := 0xFFFF } (fun t => !t.req.int0) = true := by decide

/-- For OnlyListedEventsLeaveHalt: each of the four exits. -/
theorem test_wit_OnlyListedEventsLeaveHalt :
    steps { s0 with halted := true, env := [.res] } (fun t => !t.halted) = true ∧
    steps { s0 with halted := true, env := [.pads 0 0xFF 0xFE 0 0xF] } (fun t => !t.halted) = true ∧
    steps { s0 with
        halted := true, env := [.pads 0x80 0x7F 0xFF 0 0xF]
        opt := { Config.Options.standard with paWake := 0x80 } } (fun t => !t.halted) = true ∧
    steps { s0 with halted := true, env := [.fsCycle], wdtCnt := 0xFFFF } (fun t => !t.halted) = true := by decide
/-- Its converse: a request flag that goes up, and PA7 and PA0 that fall. -/
theorem test_wit_OnlyListedEventsLeaveHalt_converse :
    let s (w b : Byte) : State := { s0 with
      halted := true, env := [.pads w b 0xFF 0 0xF], opt := { Config.Options.standard with paWake := w } }
    steps { s0 with halted := true, env := [.pads 0 0xFF 0xFE 0 0xF] } (fun t => t.req.get .int0) = true ∧
    s0.req.get .int0 = false ∧
    (s 0x80 0x7F).opt.paWake.getLsbD 7 = true ∧ (s 0x80 0x7F).paPad (s 0x80 0x7F).paLevel 7 = true ∧
    steps (s 0x80 0x7F) (fun t => !t.paPad t.paLevel 7) = true ∧
    (s 0x01 0xFE).opt.paWake.getLsbD 0 = true ∧ (s 0x01 0xFE).opt.paLowCmos = false ∧
    (s 0x01 0xFE).opt.pa01Bz = false ∧ (s 0x01 0xFE).paPad (s 0x01 0xFE).paLevel 0 = true ∧
    steps (s 0x01 0xFE) (fun t => !t.paPad t.paLevel 0) = true := by decide

/-- Its last clause: test_H10_haltedForGood. -/
theorem test_wit_HaltKeepsTheCore :
    steps { s0 with halted := true } (fun t => t.halted) = true ∧
    steps { s0 with halted := true, env := [.fsCycle] } (fun t => t.halted && decide (t.wdtCnt = 1)) = true := by decide

/-- For WatchdogInHaltIsWarmReset, ToAndPdAfterEachReset and ChipResetsSetAndKeep. -/
theorem test_wit_resets :
    let s := { s0 with env := [.fsCycle], wdtCnt := 0xFFFF, halted := true, pdf := true }
    let r := { s0 with env := [.fsCycle], wdtCnt := 0xFFFF }
    s.env = .fsCycle :: [] ∧ s.opt.wdtClk ≠ .sysDiv4 ∧ s.opt.wdtEn = true ∧ s.halted = true ∧ s.wdtCnt = 0xFFFF ∧
      s.pdf = true ∧ r.env = .fsCycle :: [] ∧ r.halted = false ∧ ({ s0 with env := [.res] } : State).env = .res :: [] :=
  ⟨rfl, by decide, rfl, rfl, rfl, rfl, rfl, rfl, rfl⟩

/-- For ChipResetsSetAndKeep: neither chain times out in the watchdog's cycle; the low voltage reset on and off. -/
theorem test_wit_ChipResetsSetAndKeep :
    let r := { s0 with env := [.fsCycle], wdtCnt := 0xFFFF, tbCnt := 4094, rtcCnt := 32766 }
    let x : Unknowns := ⟨1, 2, 3, 4, 5, s0.flags, 6, 7, 8, 9, true⟩
    r.tbCnt.toNat + 1 < 2 ^ r.opt.tbDiv ∧ r.rtcCnt.toNat + 1 < 2 ^ (8 + r.rt.toNat) ∧
    steps { s0 with env := [.powerOn x] } (fun t => decide (t.mp1 = 3) && decide (t.t1.pre = 9) && t.pfdFF) = true ∧
    steps { s0 with env := [.lowVoltage x true true], opt := { Config.Options.standard with lvrEn := true } }
      (fun t => t.tof && t.pdf && decide (t.acc = 1)) = true ∧
    steps { s0 with env := [.lowVoltage x true true] } (fun t => !t.tof && decide (t.acc = 0x12)) = true := by decide

/-- For TimerPeriodIs256MinusPreload, at both ends of the preload. -/
theorem test_wit_TimerPeriodIs256MinusPreload :
    let t := (Timer.afterReset 0xFF 0xFF).setControl 0xB0
    let u := (Timer.afterReset 0x00 0x00).setControl 0xB0
    t.ton = true ∧ t.blk = false ∧ t.cnt = t.pre ∧ 0 < 256 - t.pre.toNat ∧ 1 = 256 - t.pre.toNat ∧
      u.ton = true ∧ u.cnt = u.pre ∧ 255 < 256 - u.pre.toNat ∧ 256 = 256 - u.pre.toNat := by decide

/-- For TimerOverflowEffects: off, lost, below FFH, at FFH, cascaded and not. -/
theorem test_wit_TimerOverflowEffects :
    let s := { s0 with t0 := (Timer.afterReset 0xFF 0).setControl 0xB0, t1 := (Timer.afterReset 0xFF 0).setControl 0x90 }
    s0.t0.ton = false ∧ s0.t1.ton = false ∧ s.t0.ton = true ∧ s.t0.blk = false ∧ s.t0.cnt = 0xFF ∧
      s.t1.ton = true ∧ s.t1.blk = false ∧ s.t1.cnt = 0xFF ∧
      ({ s.t0 with blk := true } : Timer).blk = true ∧ ({ s.t0 with cnt := 0xFE } : Timer).cnt ≠ 0xFF ∧
      s.opt.t1Clk = .tmr0Ovf ∧ s.t1.tn2 = false ∧ s.t1.tn1 = true ∧ s.t1.tn0 = false ∧
      ({ Config.Options.standard with t1Clk := .sys } : Config.Options).t1Clk ≠ .tmr0Ovf ∧
      ((Timer.afterReset 0 0).setControl 0xB0).tn2 = true ∧ ((Timer.afterReset 0 0).setControl 0x50).tn1 = false ∧
      ((Timer.afterReset 0 0).setControl 0xD0).phase ≠ .count := by decide

theorem test_wit_PinEdgesRequestAndCount :
    let s := { s0 with t0 := (Timer.afterReset 0xFE 0).setControl 0x58, env := [.pads 0 0xFF 0xFB 0 0xF] }
    s.env = .pads 0 0xFF 0xFB 0 0xF :: [] ∧ s.t0.ton = true ∧ s.t0.blk = false ∧ s.t0.tn1 = false ∧ s.t0.tn0 = true ∧
      s.t0.cnt ≠ 0xFF ∧ s.pb.getLsbD 2 = s.t0.te ∧ (0xFB : Byte).getLsbD 2 = !s.t0.te :=
  ⟨rfl, rfl, rfl, rfl, rfl, by decide, rfl, by decide⟩

theorem test_wit_PinEdgesRequestAndCount_timer1 :
    let s := { s0 with t1 := (Timer.afterReset 0xFE 0).setControl 0x58, env := [.pads 0 0xFF 0xF7 0 0xF] }
    s.t1.ton = true ∧ s.t1.blk = false ∧ s.t1.tn1 = false ∧ s.t1.tn0 = true ∧ s.t1.cnt ≠ 0xFF ∧
      s.pb.getLsbD 3 = s.t1.te ∧ (0xF7 : Byte).getLsbD 3 = !s.t1.te := by decide

/-- For the overflow and pulse width clauses of PinEdgesRequestAndCount. H11: TMR0C = 58H at FFH in HALT, the TMR0 pad goes
from 1 to 0; the same for timer 1 by PB3 alone. R338: in mode 11 with TE = 1 the rising edge of PB2 (PB3) starts the
measurement of timer 0 (timer 1), and the falling one ends it. -/
theorem test_H11_PinEdges_overflow_and_width :
    let o := (Timer.afterReset 0xFF 0).setControl 0x58
    let p := (Timer.afterReset 0xFF 0).setControl 0xF8
    let low (c : Byte) : List Event := [.pads 0 0xFF c 0 0xF]
    let a := { s0 with t0 := o, t1 := o, halted := true }
    let b := { s0 with t0 := p, t1 := p, pb := 0xF3 }
    let m := { p with phase := .count }
    o.activeEdge true false ∧ o.cnt = 0xFF ∧ o.ton = true ∧ o.blk = false ∧ p.tn1 = true ∧ p.tn0 = true ∧
    steps { a with env := low 0xFB } (fun t => decide (t.t0.cnt = 0) && t.req.t0 && !t.halted && decide (t.t1 = o)) = true ∧
    steps { a with env := low 0xF7 } (fun t => decide (t.t1.cnt = 0) && t.req.t1 && !t.halted && decide (t.t0 = o)) = true ∧
    steps { b with env := low 0xF7 } (fun t => decide (t.t0 = m) && decide (t.t1 = p)) = true ∧
    steps { b with env := low 0xFB } (fun t => decide (t.t1 = m) && decide (t.t0 = p)) = true ∧
    steps { b with t0 := m, pb := 0xFF, env := low 0xFB } (fun t => !t.t0.ton && decide (t.t0.phase = .done)) = true ∧
    steps { b with t1 := m, pb := 0xFF, env := low 0xF7 } (fun t => !t.t1.ton && decide (t.t1.phase = .done)) = true :=
  ⟨⟨rfl, rfl, rfl, rfl⟩, by decide⟩

/-- For the last clause of PinEdgesRequestAndCount: PB2 and PB3 fall together, timer 0 overflows into a cascaded timer 1
whose measurement PB3 then ends. -/
theorem test_wit_PinEdges_cascade :
    let q := (Timer.afterReset 0x20 0).setControl 0xD8
    steps { s0 with
        t0 := (Timer.afterReset 0xFF 0).setControl 0x58, t1 := { q with phase := .count }
        env := [.pads 0 0xFF 0xF3 0 0xF] }
      (fun t => decide (t.t0.cnt = 0) && decide (t.t1 = { q with ton := false, phase := .done, cnt := 0x21 })) = true := by
  decide

/-- For TimerClockSources: a system clock at the fourth phase with both timers on system clock/4, one stopped by HALT,
and a cycle of fs in which the RTC and the time base time out for the timers that take them. -/
theorem test_wit_TimerClockSources :
    let o := { Config.Options.standard with t1Clk := .tbOvf, wdtEn := false }
    let a := { s0 with
      t0 := (Timer.afterReset 0xFE 0).setControl 0xB0, t1 := (Timer.afterReset 0xFE 0).setControl 0xB0, tPhase := 3 }
    let b := { s0 with
      t0 := (Timer.afterReset 0xFE 0).setControl 0x90, t1 := (Timer.afterReset 0xFE 0).setControl 0x90
      rtcCnt := 32767, tbCnt := 4095, opt := o }
    a.t0.blk = false ∧ a.t1.blk = false ∧ a.t0.cnt ≠ 0xFF ∧ a.t1.cnt ≠ 0xFF ∧ a.halted = false ∧
    a.opt.wdtClk ≠ .sysDiv4 ∧ a.opt.osc ≠ .crystal32768 ∧ a.t0.takesClocks = true ∧
    steps { a with env := [.sysClock] } (fun t => decide (t.t0.cnt = 0xFF) && decide (t.t1.cnt = 0xFF)) = true ∧
    steps { a with env := [.sysClock], halted := true } (fun t => decide (t.t0.cnt = 0xFE)) = true ∧
    b.opt.wdtEn = false ∧ 2 ^ (8 + b.rt.toNat) ≤ b.rtcCnt.toNat + 1 ∧ 2 ^ b.opt.tbDiv ≤ b.tbCnt.toNat + 1 ∧
    steps { b with env := [.fsCycle] } (fun t => decide (t.t0.cnt = 0xFF) && decide (t.t1.cnt = 0xFF)) = true := by
  decide

/-- For the `unit` clauses of TimerClockSources: each timer's own clock running and selected, below FFH and at an overflow,
not selected (TN2 the other way round), and in HALT; a last cycle of the RTC and of the time base alone. -/
theorem test_wit_TimerClockSources_unit :
    let a := { s0 with
      t0 := (Timer.afterReset 0xFE 7).setControl 0xB0, t1 := (Timer.afterReset 0xFE 7).setControl 0xB0 }
    let b := { s0 with
      t0 := (Timer.afterReset 0xFE 0).setControl 0x90, t1 := (Timer.afterReset 0xFE 0).setControl 0x90
      rtcCnt := 32767, tbCnt := 4095, opt := { Config.Options.standard with t1Clk := .tbOvf } }
    a.t0.blk = false ∧ a.t1.blk = false ∧ a.t0.tn2 = true ∧ a.t1.tn2 = true ∧ a.t0.takesClocks = true ∧
    a.t1.takesClocks = true ∧ b.t0.tn2 = false ∧ b.t1.tn2 = false ∧ b.opt.t1Clk ≠ .sys ∧
    steps { a with env := [.unit .timer0] } (fun t => decide (t.t0.cnt = 0xFF) && decide (t.t1 = a.t1)) = true ∧
    steps { a with env := [.unit .timer1] } (fun t => decide (t.t1.cnt = 0xFF) && decide (t.t0 = a.t0)) = true ∧
    steps { a with env := [.unit .timer0], t0 := { a.t0 with cnt := 0xFF } }
      (fun t => decide (t.t0.cnt = 7) && t.req.t0) = true ∧
    steps { a with env := [.unit .timer1], t1 := { a.t1 with cnt := 0xFF } }
      (fun t => decide (t.t1.cnt = 7) && t.req.t1) = true ∧
    steps { a with env := [.unit .timer0], halted := true } (fun t => decide (t.t0 = a.t0) && t.halted) = true ∧
    steps { b with env := [.unit .timer0] } (fun t => decide (t.t0 = b.t0)) = true ∧
    steps { b with env := [.unit .timer1] } (fun t => decide (t.t1 = b.t1)) = true ∧
    steps { b with env := [.unit .rtc] } (fun t => decide (t.t0.cnt = 0xFF) && decide (t.t1 = b.t1)) = true ∧
    steps { b with env := [.unit .timeBase] } (fun t => decide (t.t1.cnt = 0xFF) && decide (t.t0 = b.t0)) = true := by
  decide

theorem test_wit_PulseWidthMeasurement :
    (Timer.afterReset 0 0).ton = false ∧ (0xF8 : Byte).getLsbD 4 = true ∧ (0xF8 : Byte).getLsbD 6 = true ∧
      (0xF8 : Byte).getLsbD 7 = true := by decide

/-- For WatchdogPeriodIs65536, at any n, 65535 and 65536 among them. -/
theorem test_wit_WatchdogPeriodIs65536 (n : Nat) :
    let s := { s0 with env := List.replicate n .fsCycle }
    s.env = List.replicate n .fsCycle ∧ s.opt.wdtClk ≠ .sysDiv4 ∧ s.opt.wdtEn = true ∧ s.wdtCnt = 0 ∧
      s.halted = false := ⟨rfl, (fun h => Config.FsClk.noConfusion h), rfl, rfl, rfl⟩

/-- fs from system clock/4, the given system oscillator, and one event to come at the fourth system clock. -/
def onDiv4 (osc : Config.Osc) (wdtEn : Bool) (e : Event) : State :=
  { s0 with
    env := [e], tPhase := 3, opt := { Config.Options.standard with wdtClk := .sysDiv4, osc := osc, wdtEn := wdtEn } }

/-- For WatchdogPeriodIs65536, TimeBaseAndRtcPeriods, WatchdogInHaltIsWarmReset, ToAndPdAfterEachReset,
ChipResetsSetAndKeep and TimerClockSources: events that are a cycle of fs under each choice of option 2, in HALT too. -/
theorem test_wit_fsCycleAt (u : ClockedUnit) :
    ({ s0 with env := [.fsCycle] } : State).fsCycleAt u .fsCycle ∧ s0.fsCycleAt u (.unit u) ∧
    (onDiv4 .rc true .sysClock).fsCycleAt u .sysClock ∧
    ({ onDiv4 .crystal32768 true .sysClock with halted := true } : State).fsCycleAt u .sysClock ∧
    ({ onDiv4 .crystal32768 true (.unit u) with halted := true } : State).fsCycleAt u (.unit u) :=
  ⟨.inl ⟨Config.FsClk.noConfusion, .inl rfl⟩, .inl ⟨Config.FsClk.noConfusion, .inr rfl⟩,
    .inr ⟨rfl, .inl rfl, .inl ⟨rfl, rfl⟩⟩, .inr ⟨rfl, .inr rfl, .inl ⟨rfl, rfl⟩⟩, .inr ⟨rfl, .inr rfl, .inr rfl⟩⟩

/-- R346, R348 with fs from system clock/4: the fourth system clock counts the watchdog, times it out, and does
neither in HALT unless the system clock is the 32768Hz crystal. -/
theorem test_watchdog_on_sysDiv4 :
    steps (onDiv4 .rc true .sysClock) (fun t => decide (t.wdtCnt = 1)) = true ∧
    steps { onDiv4 .rc true .sysClock with tPhase := 2 } (fun t => decide (t.wdtCnt = 0)) = true ∧
    steps { onDiv4 .rc true .sysClock with wdtCnt := 0xFFFF } (fun t => t.tof && decide (t.pc = 0)) = true ∧
    steps { onDiv4 .rc true .sysClock with wdtCnt := 0xFFFF, halted := true }
      (fun t => t.halted && decide (t.wdtCnt = 0xFFFF)) = true ∧
    steps { onDiv4 .crystal32768 true .sysClock with wdtCnt := 0xFFFF, halted := true }
      (fun t => !t.halted && t.tof && decide (t.stk = [])) = true ∧
    steps (onDiv4 .rc false .sysClock) (fun t => decide (t.wdtCnt = 0)) = true := by decide

/-- For TimeBaseAndRtcPeriods and TimerClockSources: the last fs cycle of the time base, the RTC and the half period of
BZ at a fourth system clock, and the one before. -/
theorem test_wit_sysDiv4_time_outs :
    let a := { onDiv4 .rc false .sysClock with tbCnt := 4095, rtcCnt := 32767, bzCnt := 1 }
    2 ^ a.opt.tbDiv ≤ a.tbCnt.toNat + 1 ∧ 2 ^ (8 + a.rt.toNat) ≤ a.rtcCnt.toNat + 1 ∧ a.buzzer = false ∧
    (4094 : BitVec 15).toNat + 1 < 2 ^ a.opt.tbDiv ∧ (32766 : BitVec 15).toNat + 1 < 2 ^ (8 + a.rt.toNat) ∧
    a.t0.blk = false ∧ a.t1.blk = false ∧ a.t0.cnt ≠ 0xFF ∧ a.t1.cnt ≠ 0xFF ∧
    steps a (fun t => t.req.tb && t.req.rtc && t.buzzer && decide (t.tbCnt = 0) && decide (t.rtcCnt = 0)) = true := by
  decide

/-- For ChipResetsSetAndKeep and ToAndPdAfterEachReset: the watchdog's reset at a fourth system clock with both timers off
and at its own unit's cycle keeps ACC, the pointers and the preloads. -/
theorem test_wit_watchdog_resets_on_sysDiv4 :
    let a := { onDiv4 .rc true .sysClock with wdtCnt := 0xFFFF, mp1 := 0x60, pdf := true }
    a.halted = false ∧ a.t0.ton = false ∧ a.t1.ton = false ∧
    steps a (fun t => t.tof && t.pdf && decide (t.pc = 0) && decide (t.acc = a.acc) && decide (t.mp1 = 0x60)) = true ∧
    steps { a with env := [.unit .watchdog], tPhase := 0, t0 := { a.t0 with cnt := 5, pre := 6 } }
      (fun t => t.tof && t.pdf && decide (t.t0.cnt = 5) && decide (t.t0.pre = 6) && decide (t.acc = a.acc)) = true ∧
    steps { onDiv4 .crystal32768 true .sysClock with wdtCnt := 0xFFFF, halted := true, pdf := true }
      (fun t => t.tof && t.pdf) = true := by decide

/-- For the last clauses of WatchdogInHaltIsWarmReset and ChipResetsSetAndKeep. -/
theorem test_wit_WatchdogInHaltIsWarmReset_quiet :
    ({ s0 with env := [.fsCycle], wdtCnt := 0xFFFF, halted := true } : State).noTimeOutDue ∧
    s0.t0.ton = false ∧ s0.t1.ton = false := ⟨⟨by decide, by decide⟩, rfl, rfl⟩

/-- For TimeBaseAndRtcPeriods, at any n. -/
theorem test_wit_TimeBaseAndRtcPeriods (n : Nat) :
    let s := { s0 with
      env := List.replicate n .fsCycle
      opt := { Config.Options.standard with wdtEn := false, tbDiv := 15 } }
    s.env = List.replicate n .fsCycle ∧ s.opt.wdtClk ≠ .sysDiv4 ∧ s.opt.wdtEn = false ∧ s.opt.wf = true ∧
      s.tbCnt = 0 ∧ s.rtcCnt = 0 ∧ s.req.tb = false ∧ s.req.rtc = false :=
  ⟨rfl, (fun h => Config.FsClk.noConfusion h), rfl, rfl, rfl, rfl, rfl, rfl⟩

/-! ## How a program starts (log 24) -/

/-- A word placed at the reset vector runs as the first instruction after reset. -/
theorem test_first_instruction :
    steps (State.reset.withFetchWord 15 0x35A5) (fun t => decide (t.acc = 0xA5) && decide (t.pc = 0x001)) = true := by
  decide

end Sys2Proof.Tests
end

section
/-! PROOF. What one instruction can do to the state, said once for all 63 of them, and from it the frame of the clocked
units, the preclear flags, TO, PD, the inputs and the options. -/

namespace Sys2Proof.Machine

/-! ## What one instruction can do -/

/-- The state `s` with the registers of `c` that the instructions' own rules write, besides what they store in data
memory: PC, stack, ACC, TBLH, the flags, EMI, and the counts of free values and of cycles. -/
def State.withCore (s c : State) : State :=
  { s with
    pc := c.pc
    stk := c.stk
    acc := c.acc
    tblh := c.tblh
    flags := c.flags
    emi := c.emi
    draws := c.draws
    cycles := c.cycles }

theorem withCore_trans {s t u : State} (hst : t = s.withCore t) (htu : u = t.withCore u) : u = s.withCore u :=
  calc
    u = t.withCore u := htu
    _ = (s.withCore t).withCore u := congrArg (State.withCore · u) hst
    _ = s.withCore u := rfl

/-- The effect of an instruction outside the watchdog group: it reads, perhaps writes the location its destination
operand resolves to, and writes core registers. -/
def InstrEffect (i : Instr) (s t : State) : Prop :=
  ∃ s1 s2, ReadEffect (fetched s) s1 ∧
    (s2 = s1 ∨ ∃ l v, storeTarget i s = some l ∧ writeLoc l v s1 = .ok s2) ∧ t = s2.withCore t

theorem storeTarget_of_resolve {i : Instr} {m : Byte} {s : State} {l : Loc} (hi : i.storeOperand = some m)
    (hl : resolve m s = .ok l) : storeTarget i s = some l := by
  simp only [storeTarget, hi, hl]

theorem InstrEffect.of_core {i : Instr} {s t : State} (ht : t = (fetched s).withCore t) : InstrEffect i s t :=
  ⟨_, _, ReadEffect.refl _, .inl rfl, ht⟩

theorem InstrEffect.of_memRead {i : Instr} {m v : Byte} {s s1 t : State} (hr : memRead m (fetched s) = .ok (v, s1))
    (ht : t = s1.withCore t) : InstrEffect i s t :=
  ⟨_, _, memRead_effect hr, .inl rfl, ht⟩

theorem InstrEffect.of_writeLoc {i : Instr} {m v : Byte} {s s1 s2 t : State} {l : Loc} (hi : i.storeOperand = some m)
    (hl : resolve m s = .ok l) (hr : ReadEffect (fetched s) s1) (hw : writeLoc l v s1 = .ok s2)
    (ht : t = s2.withCore t) : InstrEffect i s t :=
  ⟨_, _, hr, .inr ⟨l, v, storeTarget_of_resolve hi hl, hw⟩, ht⟩

/-- An instruction's write is a write and, for PCL, a dummy cycle (R25). -/
theorem InstrEffect.of_storeLoc {i : Instr} {m v : Byte} {s s1 s2 t : State} {l : Loc} (hi : i.storeOperand = some m)
    (hl : resolve m s = .ok l) (hr : ReadEffect (fetched s) s1) (hw : storeLoc l v s1 = .ok s2)
    (ht : t = s2.withCore t) : InstrEffect i s t := by
  obtain ⟨s3, hw3, hs2⟩ := storeLoc_cases hw
  have hcore : s2 = s3.withCore s2 := by
    subst hs2
    split <;> rfl
  exact .of_writeLoc hi hl hr hw3 (withCore_trans hcore ht)

theorem skipIf_withCore (b : Bool) (s : State) : skipIf b s = s.withCore (skipIf b s) := by
  cases b <;> rfl

theorem accFromMem_effect {i : Instr} {f : AluOp} {m : Byte} {s t : State} (h : accFromMem f m s = .next t) :
    InstrEffect i s t := by
  obtain ⟨v, s1, hr, rfl⟩ := accFromMem_next h
  exact .of_memRead hr rfl

theorem accFromImm_effect {i : Instr} {f : AluOp} {x : Byte} {s t : State} (h : accFromImm f x s = .next t) :
    InstrEffect i s t := by
  cases accFromImm_next h
  exact .of_core rfl

theorem memFromMem_effect {i : Instr} {f : AluOp} {m : Byte} {s t : State} (hi : i.storeOperand = some m)
    (h : memFromMem f m s = .next t) : InstrEffect i s t := by
  obtain ⟨l, v, s1, s2, hl, -, hr, hw, rfl⟩ := memFromMem_next h
  exact .of_storeLoc hi hl (readLoc_effect hr) hw rfl

theorem memUpdate_effect {i : Instr} {g : Byte → Byte} {m : Byte} {s t : State} (hi : i.storeOperand = some m)
    (h : memUpdate g m s = .next t) : InstrEffect i s t := by
  obtain ⟨l, v, s1, hl, hr, hw⟩ := memUpdate_next h
  exact .of_storeLoc hi hl (readLoc_effect hr) hw rfl

theorem memStore_effect {i : Instr} {v m : Byte} {s t : State} (hi : i.storeOperand = some m)
    (h : memStore v m s = .next t) : InstrEffect i s t := by
  obtain ⟨l, hl, hw⟩ := memStore_next h
  exact .of_storeLoc hi hl (ReadEffect.refl _) hw rfl

theorem execDaa_effect {i : Instr} {m : Byte} {s t : State} (hi : i.storeOperand = some m)
    (h : execDaa m s = .next t) : InstrEffect i s t := by
  obtain ⟨l, r, c, s1, hl, -, -, hw, rfl⟩ := execDaa_next h
  exact .of_storeLoc hi hl (ReadEffect.refl _) hw rfl

theorem testSkip_effect {i : Instr} {p : Byte → Bool} {m : Byte} {s t : State} (h : testSkip p m s = .next t) :
    InstrEffect i s t := by
  obtain ⟨v, s1, hr, rfl⟩ := testSkip_next h
  exact .of_memRead hr (skipIf_withCore _ _)

theorem accSkip_effect {i : Instr} {g : Byte → Byte} {m : Byte} {s t : State} (h : accSkip g m s = .next t) :
    InstrEffect i s t := by
  obtain ⟨v, s1, hr, rfl⟩ := accSkip_next h
  exact .of_memRead hr (skipIf_withCore _ _)

theorem stepSkip_effect {i : Instr} {g : Byte → Byte} {m : Byte} {s t : State} (hi : i.storeOperand = some m)
    (h : stepSkip g m s = .next t) : InstrEffect i s t := by
  obtain ⟨l, v, s1, s2, hl, hr, -, hw, rfl⟩ := stepSkip_next h
  exact .of_storeLoc hi hl (readLoc_effect hr) hw (skipIf_withCore _ _)

theorem tableRead_effect {i : Instr} {a : PAddr} {m : Byte} {s t : State} (hi : i.storeOperand = some m)
    (h : tableRead a m s = .next t) : InstrEffect i s t := by
  obtain ⟨l, s1, hl, hw, ⟨-, rfl⟩ | ⟨-, rfl⟩⟩ := tableRead_next h
  · exact .of_writeLoc hi hl (ReadEffect.refl _) hw rfl
  · exact .of_writeLoc hi hl (ReadEffect.refl _) hw rfl

theorem execRet_effect {i : Instr} {s t : State} (h : execRet s = .next t) : InstrEffect i s t := by
  obtain ⟨a, rest, -, rfl⟩ := popPc_cases ((outcome_next _ _).mp h)
  exact .of_core rfl

theorem execRetX_effect {i : Instr} {x : Byte} {s t : State} (h : execRetX x s = .next t) : InstrEffect i s t := by
  have h' := (outcome_next _ _).mp h
  split at h'
  · next hpop =>
    obtain ⟨a, rest, -, rfl⟩ := popPc_cases hpop
    cases h'
    exact .of_core rfl
  · cases h'

theorem execReti_effect {i : Instr} {s t : State} (h : execReti s = .next t) : InstrEffect i s t := by
  obtain ⟨a, rest, -, rfl⟩ := returnFromInterrupt_cases ((outcome_next _ _).mp h)
  exact .of_core rfl

/-- What an instruction can do, for all but CLR WDT, CLR WDT1, CLR WDT2 and HALT. -/
theorem exec_effect {i : Instr} {s t : State} (hi : i.clearsWatchdog = false) (h : exec i s = .next t) :
    InstrEffect i s t := by
  cases i with
  | addA _ | adcA _ | subA _ | sbcA _ | andA _ | orA _ | xorA _ | cplA _ | incA _ | decA _
  | rrA _ | rrcA _ | rlA _ | rlcA _ | movA _ | swapA _ => exact accFromMem_effect h
  | addX _ | subX _ | andX _ | orX _ | xorX _ | movX _ => exact accFromImm_effect h
  | addM _ | adcM _ | subM _ | sbcM _ | andM _ | orM _ | xorM _ | cpl _ | inc _ | dec _ | rrc _ | rlc _ =>
    exact memFromMem_effect rfl h
  | rr _ | rl _ | clrBit _ _ | setBit _ _ | swap _ => exact memUpdate_effect rfl h
  | movM _ | clrAll _ | setAll _ => exact memStore_effect rfl h
  | daa _ => exact execDaa_effect rfl h
  | sz _ | szBit _ _ | snzBit _ _ => exact testSkip_effect h
  | szA _ | sizA _ | sdzA _ => exact accSkip_effect h
  | siz _ | sdz _ => exact stepSkip_effect rfl h
  | tabrdc _ | tabrdl _ => exact tableRead_effect rfl h
  | jmp _ | call _ | nop =>
    cases h
    exact .of_core rfl
  | ret => exact execRet_effect h
  | retX _ => exact execRetX_effect h
  | reti => exact execReti_effect h
  | clrWdt | clrWdt1 | clrWdt2 | halt => cases hi

/-! ## The units, and what surrounds the core -/

/-- The positions of the watchdog, the time base and the buzzer, the preclear flags, TO and PD. -/
def State.unitsView (s : State) :=
  (s.wdtCnt, s.tbCnt, s.bzCnt, s.wdt1Done, s.wdt2Done, s.tof, s.pdf)

/-- What no instruction touches: the PFD flip-flop, the clock phase, the inputs, the script and the options. -/
def State.surroundings (s : State) :=
  (s.pfdFF, s.tPhase, s.paDriven, s.paLevel, s.pb, s.pcDriven, s.pcLevel, s.vddLow, s.env, s.opt)

theorem unitsView_eq_iff (s t : State) : t.unitsView = s.unitsView ↔
    t.wdtCnt = s.wdtCnt ∧ t.tbCnt = s.tbCnt ∧ t.bzCnt = s.bzCnt ∧ t.wdt1Done = s.wdt1Done ∧
      t.wdt2Done = s.wdt2Done ∧ t.tof = s.tof ∧ t.pdf = s.pdf := by
  simp only [State.unitsView, Prod.mk.injEq]

theorem surroundings_eq_iff (s t : State) : t.surroundings = s.surroundings ↔
    t.pfdFF = s.pfdFF ∧ t.tPhase = s.tPhase ∧ t.paDriven = s.paDriven ∧ t.paLevel = s.paLevel ∧ t.pb = s.pb ∧
      t.pcDriven = s.pcDriven ∧ t.pcLevel = s.pcLevel ∧ t.vddLow = s.vddLow ∧ t.env = s.env ∧ t.opt = s.opt := by
  simp only [State.surroundings, Prod.mk.injEq]

/-- `t` has the units, the core's clock gate and the surroundings of `s`. -/
def SameUnits (s t : State) : Prop :=
  t.unitsView = s.unitsView ∧ t.halted = s.halted ∧ t.surroundings = s.surroundings

theorem SameUnits.trans {s t u : State} (hst : SameUnits s t) (htu : SameUnits t u) : SameUnits s u := by
  obtain ⟨hunits, hhalted, hsurr⟩ := hst
  obtain ⟨hunits', hhalted', hsurr'⟩ := htu
  exact ⟨hunits'.trans hunits, hhalted'.trans hhalted, hsurr'.trans hsurr⟩

theorem ReadEffect.sameUnits {s t : State} (h : ReadEffect s t) : SameUnits s t ∧ t.rtcCnt = s.rtcCnt := by
  obtain ⟨b0, b1, d, rfl⟩ := h
  exact ⟨⟨rfl, rfl, rfl⟩, rfl⟩

theorem sameUnits_of_withCore {s t : State} (h : t = s.withCore t) : SameUnits s t ∧ t.rtcCnt = s.rtcCnt := by
  rw [h]
  exact ⟨⟨rfl, rfl, rfl⟩, rfl⟩

/-- A write of a special-function register reaches the units by RTCC alone, and there the RTC's position only (log 13,
log 34). -/
theorem writeSfr_sameUnits {a : Nat} {v : Byte} {s t : State} (h : writeSfr a v s = .ok t) :
    SameUnits s t ∧ (a ≠ 0x09 → t.rtcCnt = s.rtcCnt) := by
  rcases writeSfr_cases h with rfl | ⟨-, rfl⟩ | ⟨-, rfl⟩ | ⟨-, rfl⟩ | ⟨-, rfl⟩ | ⟨-, rfl⟩ | ⟨-, rfl⟩ | ⟨ha, rfl⟩ |
    ⟨-, rfl⟩ | ⟨-, rfl⟩ | ⟨-, rfl⟩ | ⟨-, -, rfl⟩ | ⟨-, rfl⟩ | ⟨-, -, rfl⟩ | ⟨-, rfl⟩ | ⟨-, rfl⟩ | ⟨-, rfl⟩
  pick_goal 8
  · exact ⟨⟨rfl, rfl, rfl⟩, fun hne => absurd ha hne⟩
  all_goals exact ⟨⟨rfl, rfl, rfl⟩, fun _ => rfl⟩

theorem writeLoc_sameUnits {l : Loc} {v : Byte} {s t : State} (h : writeLoc l v s = .ok t) :
    SameUnits s t ∧ (l ≠ .data 0x09 → t.rtcCnt = s.rtcCnt) := by
  obtain ⟨-, rfl⟩ | ⟨a, -, rfl⟩ | ⟨a, rfl, -, hw⟩ | ⟨a, -, -, rfl⟩ := writeLoc_cases h
  · exact ⟨⟨rfl, rfl, rfl⟩, fun _ => rfl⟩
  · exact ⟨⟨rfl, rfl, rfl⟩, fun _ => rfl⟩
  · obtain ⟨hsame, hrtc⟩ := writeSfr_sameUnits hw
    refine ⟨hsame, fun hl => hrtc fun ha => hl ?_⟩
    have ha9 : a = 0x09 := BitVec.eq_of_toNat_eq ha
    rw [ha9]
  · exact ⟨⟨rfl, rfl, rfl⟩, fun _ => rfl⟩

theorem InstrEffect.sameUnits {i : Instr} {s t : State} (h : InstrEffect i s t) :
    SameUnits s t ∧ (storeTarget i s ≠ some (.data 0x09) → t.rtcCnt = s.rtcCnt) := by
  obtain ⟨s1, s2, hread, hstore, hcore⟩ := h
  obtain ⟨hread, hreadRtc⟩ := hread.sameUnits
  obtain ⟨hcore, hcoreRtc⟩ := sameUnits_of_withCore hcore
  have hwrite : SameUnits s1 s2 ∧ (storeTarget i s ≠ some (.data 0x09) → s2.rtcCnt = s1.rtcCnt) := by
    obtain rfl | ⟨l, v, hl, hw⟩ := hstore
    · exact ⟨⟨rfl, rfl, rfl⟩, fun _ => rfl⟩
    · obtain ⟨hsame, hrtc⟩ := writeLoc_sameUnits hw
      exact ⟨hsame, fun hne => hrtc fun hl9 => hne (hl.trans (congrArg some hl9))⟩
  have hfetch : SameUnits s (fetched s) := ⟨rfl, rfl, rfl⟩
  exact ⟨((hfetch.trans hread).trans hwrite.1).trans hcore,
    fun hne => hcoreRtc.trans ((hwrite.2 hne).trans hreadRtc)⟩

/-! ## The watchdog instructions and HALT -/

theorem clearsWatchdog_iff (i : Instr) :
    i.clearsWatchdog = true ↔ i = .clrWdt ∨ i = .clrWdt1 ∨ i = .clrWdt2 ∨ i = .halt := by
  simp only [Instr.clearsWatchdog, Bool.or_eq_true, decide_eq_true_eq, or_assoc]

/-- Whether or not they clear, and whichever preclear flag they move (R273 to R275). -/
theorem clrWdt_keeps_surroundings {s t : State}
    (h : execClrWdt s = .next t ∨ execClrWdt1 s = .next t ∨ execClrWdt2 s = .next t) :
    t.halted = s.halted ∧ t.surroundings = s.surroundings := by
  simp only [execClrWdt, execClrWdt1, execClrWdt2] at h
  obtain h | h | h := h
  all_goals
    split_ifs at h <;> cases h <;> exact ⟨rfl, rfl⟩

/-- Every instruction keeps the surroundings, and all but HALT keep the core running or stopped as it was. -/
theorem exec_keeps_surroundings {i : Instr} {s t : State} (h : exec i s = .next t) :
    (i ≠ .halt → t.halted = s.halted) ∧ t.surroundings = s.surroundings := by
  cases hi : i.clearsWatchdog with
  | false =>
    obtain ⟨⟨-, hhalted, hsurr⟩, -⟩ := (exec_effect hi h).sameUnits
    exact ⟨fun _ => hhalted, hsurr⟩
  | true =>
    obtain rfl | rfl | rfl | rfl := (clearsWatchdog_iff i).mp hi
    · exact (clrWdt_keeps_surroundings (.inl h)).imp_left fun hh _ => hh
    · exact (clrWdt_keeps_surroundings (.inr (.inl h))).imp_left fun hh _ => hh
    · exact (clrWdt_keeps_surroundings (.inr (.inr h))).imp_left fun hh _ => hh
    · cases h
      exact ⟨fun hne => absurd rfl hne, rfl⟩

/-- Settles O37: outside the watchdog group by the effect of an instruction, in the group by its four rules. -/
theorem unitsFrame : Obligations.UnitsFrame := by
  intro i s t h
  obtain ⟨hhalted, hsurr⟩ := exec_keeps_surroundings h
  refine ⟨fun hi => ?_, fun hi hne => ?_, hhalted, (surroundings_eq_iff s t).mp hsurr⟩
  · obtain ⟨⟨hunits, -, -⟩, -⟩ := (exec_effect hi h).sameUnits
    exact (unitsView_eq_iff s t).mp hunits
  · exact (exec_effect hi h).sameUnits.2 hne

end Sys2Proof.Machine
end

section
/-! PROOF. What every instruction leaves unchanged: the registers that a store reaches at its one destination only, and
the core registers by the instructions' own rules. From it the frames of registers, flags, program counter and stack. -/

namespace Sys2Proof.Machine

/-! ## What a read and a store leave unchanged -/

/-- The page of the program counter stays where PCL is written (R25). -/
theorem pclWrite_eq (p : PAddr) (v : Byte) :
    p.extractLsb' 8 4 ++ v = BitVec.ofNat 12 (256 * (p.toNat / 256) + v.toNat) := by
  apply BitVec.eq_of_toNat_eq
  have hp := p.isLt
  have hv := v.isLt
  rw [BitVec.toNat_append, ← Nat.shiftLeft_add_eq_or_of_lt hv, BitVec.extractLsb'_toNat, BitVec.toNat_ofNat,
    Nat.shiftRight_eq_div_pow, Nat.shiftLeft_eq]
  omega

/-- The registers that data writes reach, each one kept unless `l` is its location: `t` against `s`. -/
structure RegsFrame (l : Option Loc) (s t : State) : Prop where
  mp0 : l ≠ some (.data 0x01) → t.mp0 = s.mp0
  mp1 : l ≠ some (.data 0x03) → t.mp1 = s.mp1
  bp : l ≠ some (.data 0x04) → t.bp = s.bp
  tblp : l ≠ some (.data 0x07) → t.tblp = s.tblp
  rtcc : l ≠ some (.data 0x09) → t.rt = s.rt ∧ t.lvdc = s.lvdc ∧ t.qosc = s.qosc
  intc0 : l ≠ some (.data 0x0B) → t.en.int0 = s.en.int0 ∧ t.en.int1 = s.en.int1 ∧ t.en.t0 = s.en.t0 ∧
    t.req.int0 = s.req.int0 ∧ t.req.int1 = s.req.int1 ∧ t.req.t0 = s.req.t0
  intc1 : l ≠ some (.data 0x1E) → t.en.t1 = s.en.t1 ∧ t.en.tb = s.en.tb ∧ t.en.rtc = s.en.rtc ∧
    t.req.t1 = s.req.t1 ∧ t.req.tb = s.req.tb ∧ t.req.rtc = s.req.rtc
  timer0 : l ≠ some (.data 0x0D) → l ≠ some (.data 0x0E) → t.t0 = { s.t0 with blk := t.t0.blk }
  timer1 : l ≠ some (.data 0x10) → l ≠ some (.data 0x11) → t.t1 = { s.t1 with blk := t.t1.blk }
  paLatch : l ≠ some (.data 0x12) → t.paLatch = s.paLatch
  pcLatch : l ≠ some (.data 0x16) → t.pcLatch = s.pcLatch

/-- The same of the registers that the instructions' own rules write too; a write of PCL keeps the page (R25), no
write reaches TBLH or the stack. -/
structure CoreFrame (l : Option Loc) (s t : State) : Prop where
  acc : l ≠ some (.data 0x05) → t.acc = s.acc
  flags : l ≠ some Loc.statusReg → t.flags = s.flags
  emi : l ≠ some (.data 0x0B) → t.emi = s.emi
  pc : l ≠ some Loc.pcl → t.pc = s.pc
  page : t.pc.toNat / 256 = s.pc.toNat / 256
  cycles : l ≠ some Loc.pcl → t.cycles = s.cycles
  tblh : t.tblh = s.tblh
  stk : t.stk = s.stk

variable {l : Option Loc} {s t u : State}

theorem RegsFrame.trans (h : RegsFrame l s t) (k : RegsFrame l t u) : RegsFrame l s u where
  mp0 hl := (k.mp0 hl).trans (h.mp0 hl)
  mp1 hl := (k.mp1 hl).trans (h.mp1 hl)
  bp hl := (k.bp hl).trans (h.bp hl)
  tblp hl := (k.tblp hl).trans (h.tblp hl)
  rtcc hl := by simp only [k.rtcc hl, h.rtcc hl, and_self]
  intc0 hl := by simp only [k.intc0 hl, h.intc0 hl, and_self]
  intc1 hl := by simp only [k.intc1 hl, h.intc1 hl, and_self]
  timer0 hl hl' := by rw [k.timer0 hl hl', h.timer0 hl hl']
  timer1 hl hl' := by rw [k.timer1 hl hl', h.timer1 hl hl']
  paLatch hl := (k.paLatch hl).trans (h.paLatch hl)
  pcLatch hl := (k.pcLatch hl).trans (h.pcLatch hl)

theorem CoreFrame.trans (h : CoreFrame l s t) (k : CoreFrame l t u) : CoreFrame l s u where
  acc hl := (k.acc hl).trans (h.acc hl)
  flags hl := (k.flags hl).trans (h.flags hl)
  emi hl := (k.emi hl).trans (h.emi hl)
  pc hl := (k.pc hl).trans (h.pc hl)
  page := k.page.trans h.page
  cycles hl := (k.cycles hl).trans (h.cycles hl)
  tblh := k.tblh.trans h.tblh
  stk := k.stk.trans h.stk

theorem ReadEffect.regs (h : ReadEffect s t) : RegsFrame l s t := by
  obtain ⟨b0, b1, d, rfl⟩ := h
  constructor <;> intros <;> simp only [and_self]

theorem ReadEffect.core (h : ReadEffect s t) : CoreFrame l s t := by
  obtain ⟨b0, b1, d, rfl⟩ := h
  constructor <;> intros <;> rfl

theorem CoreFrame.refl (s : State) : CoreFrame l s s := (ReadEffect.refl s).core

theorem eq_ofNat_of_toNat {a : Byte} {n : Nat} (h : a.toNat = n) : a = BitVec.ofNat 8 n := by
  rw [← h, BitVec.ofNat_toNat, BitVec.setWidth_eq]

/-- A write of a special-function register changes that register alone: in each case of `writeSfr_cases` a field is
as before, or it is the one at the address written. -/
theorem writeSfr_frame {a v : Byte} (h : writeSfr a.toNat v s = .ok t) :
    RegsFrame (some (.data a)) s t ∧ CoreFrame (some (.data a)) s t := by
  have hpage : (s.pc.extractLsb' 8 4 ++ v).toNat / 256 = s.pc.toNat / 256 := by
    have hv := v.isLt
    have hp := s.pc.isLt
    rw [pclWrite_eq, BitVec.toNat_ofNat]
    omega
  rcases writeSfr_cases h with rfl | ⟨ha, rfl⟩ | ⟨ha, rfl⟩ | ⟨ha, rfl⟩ | ⟨ha, rfl⟩ | ⟨ha, rfl⟩ | ⟨ha, rfl⟩ |
    ⟨ha, rfl⟩ | ⟨ha, rfl⟩ | ⟨ha, rfl⟩ | ⟨ha, rfl⟩ | ⟨ha, -, rfl⟩ | ⟨ha, rfl⟩ | ⟨ha, -, rfl⟩ | ⟨ha, rfl⟩ |
    ⟨ha, rfl⟩ | ⟨ha, rfl⟩
  · exact ⟨(ReadEffect.refl _).regs, CoreFrame.refl _⟩
  all_goals
    obtain rfl := eq_ofNat_of_toNat ha
    constructor <;> constructor <;> intros <;>
      first | exact absurd rfl ‹_› | exact hpage | (and_intros <;> rfl)

/-- A write changes the register at its location alone (R91). -/
theorem writeLoc_frame {l : Loc} {v : Byte} (h : writeLoc l v s = .ok t) :
    RegsFrame (some l) s t ∧ CoreFrame (some l) s t := by
  obtain ⟨-, rfl⟩ | ⟨a, -, rfl⟩ | ⟨a, rfl, -, hw⟩ | ⟨a, -, -, rfl⟩ := writeLoc_cases h
  · exact ⟨(ReadEffect.refl _).regs, CoreFrame.refl _⟩
  · constructor <;> constructor <;> intros <;> simp only [and_self]
  · exact writeSfr_frame hw
  · constructor <;> constructor <;> intros <;> simp only [and_self]

/-- So does an instruction's write, with a dummy cycle where it is PCL (R25). -/
theorem storeLoc_core {l : Loc} {v : Byte} (h : storeLoc l v s = .ok t) : CoreFrame (some l) s t := by
  obtain ⟨s1, hw, rfl⟩ := storeLoc_cases h
  have hcore := (writeLoc_frame hw).2
  split
  · next hl =>
    have hl' := congrArg some hl
    exact { hcore with pc := fun hne => absurd hl' hne, cycles := fun hne => absurd hl' hne }
  · exact hcore

/-! ## The registers that only data writes reach -/

theorem regs_of_withCore (h : t = s.withCore t) : RegsFrame l s t := by
  rw [h]
  constructor <;> intros <;> simp only [State.withCore, and_self]

theorem fetched_regs (s : State) : RegsFrame l s (fetched s) := by
  constructor <;> intros <;> and_intros <;> rfl

theorem InstrEffect.regs {i : Instr} (h : InstrEffect i s t) : RegsFrame (storeTarget i s) s t := by
  obtain ⟨s1, s2, hread, hstore, hcore⟩ := h
  have hwrite : RegsFrame (storeTarget i s) s1 s2 := by
    obtain rfl | ⟨l, v, hl, hw⟩ := hstore
    · exact (ReadEffect.refl _).regs
    · rw [hl]
      exact (writeLoc_frame hw).1
  exact (((fetched_regs s).trans hread.regs).trans hwrite).trans (regs_of_withCore hcore)

/-- What the watchdog instructions and HALT can change besides the program counter and the cycle count: the watchdog,
the dividers, the preclear flags, TO, PD and HALT (R273 to R275, R278). -/
def WatchdogEffect (s t : State) : Prop :=
  t = { fetched s with
    pdf := t.pdf
    tof := t.tof
    halted := t.halted
    wdtCnt := t.wdtCnt
    tbCnt := t.tbCnt
    rtcCnt := t.rtcCnt
    bzCnt := t.bzCnt
    wdt1Done := t.wdt1Done
    wdt2Done := t.wdt2Done
    draws := t.draws }

theorem clearsWatchdog_effect {i : Instr} (hi : i.clearsWatchdog = true) (h : exec i s = .next t) :
    WatchdogEffect s t := by
  obtain rfl | rfl | rfl | rfl := (clearsWatchdog_iff i).mp hi
  case inr.inr.inr => cases h; rfl
  all_goals
    simp only [exec, execClrWdt, execClrWdt1, execClrWdt2] at h
    split_ifs at h <;> cases h <;> rfl

theorem WatchdogEffect.regs (h : WatchdogEffect s t) : RegsFrame l s t := by
  rw [h]
  constructor <;> intros <;> and_intros <;> rfl

theorem WatchdogEffect.core (h : WatchdogEffect s t) : CoreFrame l (fetched s) t := by
  rw [h]
  constructor <;> intros <;> rfl

theorem exec_regs {i : Instr} (h : exec i s = .next t) : RegsFrame (storeTarget i s) s t := by
  cases hi : i.clearsWatchdog with
  | false => exact (exec_effect hi h).regs
  | true => exact (clearsWatchdog_effect hi h).regs

/-! ## The core registers -/

/-- Between `old` and `new` only flags of the group `u` of R33 changed. -/
def FlagsWithin (u : FlagUse) (old new : Flags) : Prop :=
  match u with
  | .none => new = old
  | .z => new = { old with z := new.z }
  | .c => new = { old with c := new.c }
  | .all => True

/-- What the instruction `i`, run from `s`, does by its own rule to the core registers of `s2`, the state after its
read and its store. -/
structure CoreRule (i : Instr) (s s2 t : State) : Prop where
  acc : i.writesAcc = false → t.acc = s2.acc
  tblh : i.isTableRead = false → t.tblh = s2.tblh
  emi : i ≠ .reti → t.emi = s2.emi
  flags : storeTarget i s ≠ some Loc.statusReg → FlagsWithin i.flagUse s2.flags t.flags
  pc : t.pc = s2.pc ∨ (i.isSkip = true ∧ storeTarget i s ≠ some Loc.pcl ∧ t.pc = s2.pc + 1) ∨ i = .jmp t.pc ∨
    i = .call t.pc ∨ (i.isReturn = true ∧ s.stk.head? = some t.pc)
  stk : t.stk = s2.stk ∨ (i = .call t.pc ∧ t.stk = (s.pc + 1) :: s.stk.take 5) ∨
    (i.isReturn = true ∧ s.stk = t.pc :: t.stk)

/-- The instruction reads, perhaps stores to its destination, and then acts by its own rule. -/
def CoreEffect (i : Instr) (s t : State) : Prop :=
  ∃ s2, CoreFrame (storeTarget i s) (fetched s) s2 ∧ CoreRule i s s2 t

theorem skipIf_pc (b : Bool) (s : State) :
    (b = false ∧ (skipIf b s).pc = s.pc) ∨ (b = true ∧ (skipIf b s).pc = s.pc + 1) := by
  cases b
  · exact .inl ⟨rfl, rfl⟩
  · exact .inr ⟨rfl, rfl⟩

variable {i : Instr} {m : Byte}

theorem FlagsWithin.refl (u : FlagUse) (f : Flags) : FlagsWithin u f f := by
  cases u <;> simp only [FlagsWithin]

/-- An instruction whose own rule writes no core register but `pc + 1`. -/
theorem CoreRule.refl (i : Instr) (s t : State) : CoreRule i s t t :=
  ⟨fun _ => rfl, fun _ => rfl, fun _ => rfl, fun _ => FlagsWithin.refl _ _, .inl rfl, .inl rfl⟩

theorem accFromMem_core {f : AluOp} (hacc : i.writesAcc = true)
    (h : accFromMem f m s = .next t) (hf : ∀ a fl v, FlagsWithin i.flagUse fl (f a fl v).2) : CoreEffect i s t := by
  obtain ⟨v, s1, hr, rfl⟩ := accFromMem_next h
  exact ⟨s1, (memRead_effect hr).core,
    { CoreRule.refl i s s1 with acc := fun hn => absurd hacc (by simp [hn]), flags := fun _ => hf _ _ _ }⟩

theorem accFromImm_core {f : AluOp} {x : Byte} (hacc : i.writesAcc = true)
    (h : accFromImm f x s = .next t) (hf : ∀ a fl v, FlagsWithin i.flagUse fl (f a fl v).2) : CoreEffect i s t := by
  cases accFromImm_next h
  exact ⟨fetched s, CoreFrame.refl _,
    { CoreRule.refl i s (fetched s) with acc := fun hn => absurd hacc (by simp [hn]), flags := fun _ => hf _ _ _ }⟩

theorem memFromMem_core {f : AluOp} (hi : i.storeOperand = some m)
    (h : memFromMem f m s = .next t) (hf : ∀ a fl v, FlagsWithin i.flagUse fl (f a fl v).2) : CoreEffect i s t := by
  obtain ⟨l, v, s1, s2, hl, hne, hr, hw, rfl⟩ := memFromMem_next h
  have hstore := storeLoc_core hw
  refine ⟨s2, ?_, { CoreRule.refl i s s2 with flags := fun _ => ?_ }⟩
  · rw [storeTarget_of_resolve hi hl]
    exact (readLoc_effect hr).core.trans hstore
  · rw [hstore.flags (by simpa using hne)]
    exact hf _ _ _

theorem execDaa_core (hi : i.storeOperand = some m) (hc : i.flagUse = .c) (h : execDaa m s = .next t) :
    CoreEffect i s t := by
  obtain ⟨l, r, c, s1, hl, hne, -, hw, rfl⟩ := execDaa_next h
  have hstore := storeLoc_core hw
  refine ⟨s1, ?_, { CoreRule.refl i s s1 with flags := fun _ => ?_ }⟩
  · rw [storeTarget_of_resolve hi hl]
    exact hstore
  · rw [hstore.flags (by simpa using hne), hc]
    rfl

theorem memUpdate_core {g : Byte → Byte} (hi : i.storeOperand = some m) (h : memUpdate g m s = .next t) :
    CoreEffect i s t := by
  obtain ⟨l, v, s1, hl, hr, hw⟩ := memUpdate_next h
  refine ⟨t, ?_, CoreRule.refl i s t⟩
  rw [storeTarget_of_resolve hi hl]
  exact (readLoc_effect hr).core.trans (storeLoc_core hw)

theorem memStore_core {v : Byte} (hi : i.storeOperand = some m) (h : memStore v m s = .next t) :
    CoreEffect i s t := by
  obtain ⟨l, hl, hw⟩ := memStore_next h
  refine ⟨t, ?_, CoreRule.refl i s t⟩
  rw [storeTarget_of_resolve hi hl]
  exact storeLoc_core hw

/-- After the read and the store: a skip that is taken, where the destination is not PCL, or none. -/
theorem CoreRule.of_skipIf {b : Bool} {s2 : State} (hskip : i.isSkip = true)
    (hpcl : b = true → storeTarget i s ≠ some Loc.pcl) : CoreRule i s s2 (skipIf b s2) := by
  cases b with
  | false => exact CoreRule.refl i s s2
  | true => exact { CoreRule.refl i s s2 with
      pc := .inr (.inl ⟨hskip, hpcl rfl, rfl⟩), stk := .inl rfl }

theorem testSkip_core {p : Byte → Bool} (hskip : i.isSkip = true) (hi : i.storeOperand = none)
    (h : testSkip p m s = .next t) : CoreEffect i s t := by
  obtain ⟨v, s1, hr, rfl⟩ := testSkip_next h
  exact ⟨s1, (memRead_effect hr).core, CoreRule.of_skipIf hskip (by simp [storeTarget, hi])⟩

theorem accSkip_core {g : Byte → Byte} (hskip : i.isSkip = true) (hacc : i.writesAcc = true)
    (hi : i.storeOperand = none) (h : accSkip g m s = .next t) : CoreEffect i s t := by
  obtain ⟨v, s1, hr, rfl⟩ := accSkip_next h
  have hrule : CoreRule i s { s1 with acc := g v } (skipIf (decide (g v = 0)) { s1 with acc := g v }) :=
    CoreRule.of_skipIf hskip (by simp [storeTarget, hi])
  exact ⟨s1, (memRead_effect hr).core,
    { hrule with acc := fun hn => absurd hacc (by simp [hn]) }⟩

theorem stepSkip_core {g : Byte → Byte} (hskip : i.isSkip = true) (hi : i.storeOperand = some m)
    (h : stepSkip g m s = .next t) : CoreEffect i s t := by
  obtain ⟨l, v, s1, s2, hl, hr, hpcl, hw, rfl⟩ := stepSkip_next h
  have htarget := storeTarget_of_resolve hi hl
  refine ⟨s2, ?_, CoreRule.of_skipIf hskip fun hz => ?_⟩
  · rw [htarget]
    exact (readLoc_effect hr).core.trans (storeLoc_core hw)
  · rw [htarget]
    simp_all

theorem tableRead_core {a : PAddr} (htable : i.isTableRead = true) (hi : i.storeOperand = some m)
    (h : tableRead a m s = .next t) : CoreEffect i s t := by
  obtain ⟨l, s1, hl, hw, ht⟩ := tableRead_next h
  refine ⟨s1, ?_, ?_⟩
  · rw [storeTarget_of_resolve hi hl]
    exact (writeLoc_frame hw).2
  · obtain ⟨-, rfl⟩ | ⟨-, rfl⟩ := ht
    all_goals exact { CoreRule.refl i s s1 with tblh := fun hn => absurd htable (by simp [hn]) }

theorem execRet_core (h : execRet s = .next t) : CoreEffect .ret s t := by
  obtain ⟨a, rest, hstk, rfl⟩ := popPc_cases ((outcome_next _ _).mp h)
  exact ⟨fetched s, CoreFrame.refl _, { CoreRule.refl _ s (fetched s) with
    pc := .inr (.inr (.inr (.inr ⟨rfl, congrArg List.head? hstk⟩)))
    stk := .inr (.inr ⟨rfl, hstk⟩) }⟩

theorem execRetX_core {x : Byte} (h : execRetX x s = .next t) : CoreEffect (.retX x) s t := by
  have h' := (outcome_next _ _).mp h
  split at h'
  · next hpop =>
    obtain ⟨a, rest, hstk, rfl⟩ := popPc_cases hpop
    cases h'
    exact ⟨fetched s, CoreFrame.refl _, { CoreRule.refl _ s (fetched s) with
      acc := nofun
      pc := .inr (.inr (.inr (.inr ⟨rfl, congrArg List.head? hstk⟩)))
      stk := .inr (.inr ⟨rfl, hstk⟩) }⟩
  · cases h'

theorem execReti_core (h : execReti s = .next t) : CoreEffect .reti s t := by
  obtain ⟨a, rest, hstk, rfl⟩ := returnFromInterrupt_cases ((outcome_next _ _).mp h)
  exact ⟨fetched s, CoreFrame.refl _, { CoreRule.refl _ s (fetched s) with
    emi := fun hne => absurd rfl hne
    pc := .inr (.inr (.inr (.inr ⟨rfl, congrArg List.head? hstk⟩)))
    stk := .inr (.inr ⟨rfl, hstk⟩) }⟩

/-- What every instruction does to the core registers. -/
theorem exec_core (h : exec i s = .next t) : CoreEffect i s t := by
  cases i with
  | addA _ | adcA _ | subA _ | sbcA _ => exact accFromMem_core rfl h fun _ _ _ => trivial
  | andA _ | orA _ | xorA _ | cplA _ | incA _ | decA _ | rrcA _ | rlcA _ | rrA _ | rlA _ | movA _ | swapA _ =>
    exact accFromMem_core rfl h fun _ _ _ => rfl
  | addX _ | subX _ => exact accFromImm_core rfl h fun _ _ _ => trivial
  | andX _ | orX _ | xorX _ | movX _ => exact accFromImm_core rfl h fun _ _ _ => rfl
  | addM _ | adcM _ | subM _ | sbcM _ => exact memFromMem_core rfl h fun _ _ _ => trivial
  | andM _ | orM _ | xorM _ | cpl _ | inc _ | dec _ | rrc _ | rlc _ =>
    exact memFromMem_core rfl h fun _ _ _ => rfl
  | daa _ => exact execDaa_core rfl rfl h
  | rr _ | rl _ | clrBit _ _ | setBit _ _ | swap _ => exact memUpdate_core rfl h
  | movM _ | clrAll _ | setAll _ => exact memStore_core rfl h
  | sz _ | szBit _ _ | snzBit _ _ => exact testSkip_core rfl rfl h
  | szA _ | sizA _ | sdzA _ => exact accSkip_core rfl rfl rfl h
  | siz _ | sdz _ => exact stepSkip_core rfl rfl h
  | tabrdc _ | tabrdl _ => exact tableRead_core rfl rfl h
  | nop =>
    cases h
    exact ⟨fetched s, CoreFrame.refl _, CoreRule.refl _ s _⟩
  | jmp _ =>
    cases h
    exact ⟨fetched s, CoreFrame.refl _, { CoreRule.refl _ s (fetched s) with
      pc := .inr (.inr (.inl rfl)), stk := .inl rfl }⟩
  | call _ =>
    cases h
    exact ⟨fetched s, CoreFrame.refl _, { CoreRule.refl _ s (fetched s) with
      pc := .inr (.inr (.inr (.inl rfl))), stk := .inr (.inl ⟨rfl, rfl⟩) }⟩
  | ret => exact execRet_core h
  | retX _ => exact execRetX_core h
  | reti => exact execReti_core h
  | clrWdt | clrWdt1 | clrWdt2 | halt => exact ⟨t, (clearsWatchdog_effect rfl h).core, CoreRule.refl _ s t⟩

/-! ## The frames -/

/-- Settles O36: the registers of data writes by `exec_regs`, ACC, TBLH and EMI by `exec_core`. -/
theorem registerFrame : Obligations.RegisterFrame := by
  intro i s t h
  have hregs := exec_regs h
  obtain ⟨s2, hframe, hrule⟩ := exec_core h
  exact ⟨fun ha hl => (hrule.acc ha).trans (hframe.acc hl), hregs.mp0, hregs.mp1, hregs.bp, hregs.tblp,
    fun ht => (hrule.tblh ht).trans hframe.tblh, hregs.rtcc, fun hl hi => (hrule.emi hi).trans (hframe.emi hl),
    hregs.intc0, hregs.intc1, hregs.timer0, hregs.timer1, hregs.paLatch, hregs.pcLatch⟩

/-- Settles O38: TO and PD by the frame of the units, the other flags by R33's groups in `exec_core`. -/
theorem flagFrame : Obligations.FlagFrame := by
  intro i s t h
  obtain ⟨s2, hframe, hrule⟩ := exec_core h
  refine ⟨fun hi => ?_, fun hl => ?_⟩
  · obtain ⟨-, -, -, -, -, htof, hpdf⟩ := (unitsFrame i s t h).1 hi
    exact ⟨htof, hpdf⟩
  · have hwithin : FlagsWithin i.flagUse s.flags t.flags := hframe.flags hl ▸ hrule.flags hl
    refine ⟨fun hu => ?_, fun hu => ?_, fun hu => ?_⟩
    all_goals
      rw [hu] at hwithin
      exact hwithin

/-- Where the program counter of an instruction can go. -/
theorem exec_pc (h : exec i s = .next t) :
    t.pc = s.pc + 1 ∨ (i.isSkip = true ∧ t.pc = s.pc + 2) ∨
      (storeTarget i s = some Loc.pcl ∧ t.pc.toNat / 256 = (s.pc + 1).toNat / 256) ∨
      i = .jmp t.pc ∨ i = .call t.pc ∨ (i.isReturn = true ∧ s.stk.head? = some t.pc) := by
  obtain ⟨s2, hframe, hrule⟩ := exec_core h
  obtain hpc | ⟨hskip, hl, hpc⟩ | hjump := hrule.pc
  · by_cases hl : storeTarget i s = some Loc.pcl
    · exact .inr (.inr (.inl ⟨hl, hpc ▸ hframe.page⟩))
    · exact .inl (hpc.trans (hframe.pc hl))
  · refine .inr (.inl ⟨hskip, ?_⟩)
    rw [hpc, hframe.pc hl, fetched_pc, BitVec.add_assoc]
    rfl
  · exact .inr (.inr (.inr hjump))

/-- Only CALL and the returns move the stack. -/
theorem exec_stk (h : exec i s = .next t) :
    t.stk = s.stk ∨ (i = .call t.pc ∧ t.stk = (s.pc + 1) :: s.stk.take 5) ∨
      (i.isReturn = true ∧ s.stk = t.pc :: t.stk) := by
  obtain ⟨s2, hframe, hrule⟩ := exec_core h
  exact hrule.stk.imp_left fun hstk => hstk.trans hframe.stk

/-- Settles O39, by the rules for the core registers. -/
theorem programCounterAndStackFrame : Obligations.ProgramCounterAndStackFrame :=
  fun _ _ _ h => ⟨exec_pc h, exec_stk h⟩

end Sys2Proof.Machine
end

section
/-! PROOF. What the clocks of the units can do to the timers and the request flags, and what a whole step can do, said
once over all its events. -/

namespace Sys2Proof.Machine

/-! ## Count events -/

/-- `u` is the timer `t` after count events: its counter and its lost-count bit moved at most, and nothing where the
timer is off (R333). -/
structure Timer.Counted (t u : Timer) : Prop where
  keeps : u = { t with cnt := u.cnt, blk := u.blk }
  off : t.ton = false → u = t

theorem Timer.Counted.refl (t : Timer) : t.Counted t := ⟨rfl, fun _ => rfl⟩

theorem Timer.Counted.trans {t u v : Timer} (h : t.Counted u) (k : u.Counted v) : t.Counted v where
  keeps := by rw [k.keeps, h.keeps]
  off ht := by
    obtain rfl := h.off ht
    exact k.off ht

theorem Timer.countEvent_counted (t : Timer) : t.Counted t.countEvent.1 where
  keeps := by
    unfold Timer.countEvent
    repeat' split
    all_goals rfl
  off h := by rw [Timer.countEvent_off h]

/-- What the clocks do to the timers, and that they set neither EIF0 nor EIF1 (R304). -/
structure CountsOnly (s u : State) : Prop where
  t0 : s.t0.Counted u.t0
  t1 : s.t1.Counted u.t1
  int0 : u.req.int0 = s.req.int0
  int1 : u.req.int1 = s.req.int1

variable {s t u v : State}

theorem CountsOnly.quiet (h0 : u.t0 = s.t0) (h1 : u.t1 = s.t1) (hr : u.req = s.req) : CountsOnly s u where
  t0 := h0 ▸ Timer.Counted.refl _
  t1 := h1 ▸ Timer.Counted.refl _
  int0 := by rw [hr]
  int1 := by rw [hr]

theorem CountsOnly.refl (s : State) : CountsOnly s s := .quiet rfl rfl rfl

theorem CountsOnly.trans (h : CountsOnly s u) (k : CountsOnly u v) : CountsOnly s v :=
  ⟨h.t0.trans k.t0, h.t1.trans k.t1, k.int0.trans h.int0, k.int1.trans h.int1⟩

theorem CountsOnly.ite {c : Prop} [Decidable c] (h : CountsOnly s u) (k : CountsOnly s v) :
    CountsOnly s (if c then u else v) := by
  split
  · exact h
  · exact k

theorem raise_counts (src : Source) (s : State) (h : src ≠ .int0 ∧ src ≠ .int1) : CountsOnly s (raise src s) := by
  obtain ⟨h0, h1⟩ := h
  refine (CountsOnly.refl s).ite ⟨.refl _, .refl _, ?_, ?_⟩
  · cases src <;> first | rfl | exact absurd rfl h0
  · cases src <;> first | rfl | exact absurd rfl h1

theorem togglePfd_counts (p : Config.PfdSrc) (s : State) : CountsOnly s (togglePfd p s) :=
  .ite (.quiet rfl rfl rfl) (.refl s)

theorem countTimer1_counts (s : State) : CountsOnly s (countTimer1 s) := by
  have h0 : CountsOnly s { s with t1 := s.t1.countEvent.1 } := ⟨.refl _, s.t1.countEvent_counted, rfl, rfl⟩
  exact .ite ((h0.trans (togglePfd_counts .pfd1 _)).trans (raise_counts .t1 _ (by decide))) h0

theorem clockTimer1_counts (s : State) : CountsOnly s (clockTimer1 s) := (countTimer1_counts s).ite (.refl s)

theorem tickTimer1_counts (c : Config.T1Clk) (s : State) : CountsOnly s (tickTimer1 c s) :=
  (clockTimer1_counts s).ite (.refl s)

theorem tickTimer1Div4_counts (s : State) : CountsOnly s (tickTimer1Div4 s) := (clockTimer1_counts s).ite (.refl s)

theorem countTimer0_counts (s : State) : CountsOnly s (countTimer0 s) := by
  have h0 : CountsOnly s { s with t0 := s.t0.countEvent.1 } := ⟨s.t0.countEvent_counted, .refl _, rfl, rfl⟩
  exact .ite (((h0.trans (togglePfd_counts .pfd0 _)).trans (raise_counts .t0 _ (by decide))).trans
    (tickTimer1_counts _ _)) h0

theorem clockTimer0_counts (s : State) : CountsOnly s (clockTimer0 s) := (countTimer0_counts s).ite (.refl s)

theorem tickTimer0_counts (c : Config.T0Clk) (s : State) : CountsOnly s (tickTimer0 c s) :=
  (clockTimer0_counts s).ite (.refl s)

theorem tickTimeBase_counts (s : State) : CountsOnly s (tickTimeBase s) := by
  have h0 : CountsOnly s { s with tbCnt := 0 } := .quiet rfl rfl rfl
  exact .ite ((h0.trans (raise_counts .tb _ (by decide))).trans (tickTimer1_counts .tbOvf _)) (.quiet rfl rfl rfl)

theorem rtcOut_counts (s : State) : CountsOnly s (rtcOut s) := by
  have h := raise_counts .rtc s (by decide)
  exact h.ite (h.trans (clockTimer0_counts _))

theorem tickRtc_counts (s : State) : CountsOnly s (tickRtc s) := by
  have h0 : CountsOnly s { s with rtcCnt := 0 } := .quiet rfl rfl rfl
  exact .ite (h0.trans (rtcOut_counts _)) (.quiet rfl rfl rfl)

/-! ## The clocks up to the watchdog -/

/-- One cycle of fs at the chains beside the watchdog (R346). -/
def fsChains (s : State) : State := tickBuzzer (tickRtc (tickTimeBase s))

theorem fsTick_eq (b : Bool) (s : State) : fsTick b s = tickWatchdog b (fsChains s) := rfl

/-- One cycle of the system clock at the timers that take it undivided (R331). -/
def sysTimers (s : State) : State := tickTimer1 .sys (tickTimer0 .sys { s with tPhase := s.tPhase + 1 })

/-- One cycle of system clock/4 at the timers (R331). -/
def div4Timers (s : State) : State := tickTimer1Div4 (tickTimer0 .sysDiv4 s)

/-- What the clocks do to the machine up to the watchdog. -/
structure ClockEffect (s u : State) : Prop where
  unit : UnitEffect s u
  raises : OnlyRaises s u
  counts : CountsOnly s u

theorem ClockEffect.refl (s : State) : ClockEffect s s := ⟨.refl s, .refl s, .refl s⟩

theorem ClockEffect.trans (h : ClockEffect s u) (k : ClockEffect u v) : ClockEffect s v :=
  ⟨h.unit.trans k.unit, h.raises.trans k.raises, h.counts.trans k.counts⟩

theorem clockTimer0_clock (s : State) : ClockEffect s (clockTimer0 s) :=
  ⟨clockTimer0_effect s, clockTimer0_onlyRaises s, clockTimer0_counts s⟩

theorem clockTimer1_clock (s : State) : ClockEffect s (clockTimer1 s) :=
  ⟨clockTimer1_effect s, clockTimer1_onlyRaises s, clockTimer1_counts s⟩

theorem tickTimeBase_clock (s : State) : ClockEffect s (tickTimeBase s) :=
  ⟨tickTimeBase_effect s, tickTimeBase_onlyRaises s, tickTimeBase_counts s⟩

theorem tickRtc_clock (s : State) : ClockEffect s (tickRtc s) :=
  ⟨tickRtc_effect s, tickRtc_onlyRaises s, tickRtc_counts s⟩

theorem tickBuzzer_clock (s : State) : ClockEffect s (tickBuzzer s) :=
  ⟨rfl, .quiet rfl rfl id id rfl, .quiet rfl rfl rfl⟩

theorem fsChains_clock (s : State) : ClockEffect s (fsChains s) :=
  ((tickTimeBase_clock s).trans (tickRtc_clock _)).trans (tickBuzzer_clock _)

theorem sysTimers_clock (s : State) : ClockEffect s (sysTimers s) := by
  have h0 : ClockEffect s { s with tPhase := s.tPhase + 1 } :=
    ⟨rfl, .quiet rfl rfl id id rfl, .quiet rfl rfl rfl⟩
  exact (h0.trans ⟨tickTimer0_effect _ _, tickTimer0_onlyRaises _ _, tickTimer0_counts _ _⟩).trans
    ⟨tickTimer1_effect _ _, tickTimer1_onlyRaises _ _, tickTimer1_counts _ _⟩

theorem div4Timers_clock (s : State) : ClockEffect s (div4Timers s) :=
  .trans ⟨tickTimer0_effect _ _, tickTimer0_onlyRaises _ _, tickTimer0_counts _ _⟩
    ⟨tickTimer1Div4_effect _, tickTimer1Div4_onlyRaises _, tickTimer1Div4_counts _⟩

/-- One cycle of the system clock: effects of the clocks, with the watchdog's cycle last where it has one. -/
theorem sysTick_clock (s : State) :
    ∃ u, ClockEffect s u ∧ (sysTick s = u ∨ sysTick s = tickWatchdog s.halted u) := by
  have h := sysTimers_clock s
  have h4 := h.trans (div4Timers_clock _)
  unfold sysTick
  dsimp only
  split
  · exact ⟨s, .refl s, .inl rfl⟩
  · split
    · unfold div4Tick
      dsimp only
      split
      · exact ⟨_, h4.trans (fsChains_clock _), .inr rfl⟩
      · exact ⟨_, h4, .inl rfl⟩
    · exact ⟨_, h, .inl rfl⟩

/-- One cycle of its clock at one unit. -/
theorem unitTick_clock (c : ClockedUnit) (s : State) :
    ClockEffect s (unitTick c s) ∨ (c = .watchdog ∧ unitTick c s = tickWatchdog s.halted s) := by
  cases c <;> simp only [unitTick] <;> split
  case timer0.isTrue => exact .inl (clockTimer0_clock s)
  case timer1.isTrue => exact .inl (clockTimer1_clock s)
  case timeBase.isTrue => exact .inl (tickTimeBase_clock s)
  case rtc.isTrue => exact .inl (tickRtc_clock s)
  case buzzer.isTrue => exact .inl (tickBuzzer_clock s)
  case watchdog.isTrue => exact .inr ⟨trivial, rfl⟩
  all_goals exact .inl (.refl s)

/-! ## What a step can do -/

/-- The events in which the watchdog can have its cycle of fs (R346). -/
def clocksWatchdog (e : Option Event) : Prop :=
  e = some .fsCycle ∨ e = some .sysClock ∨ e = some (.unit .watchdog)

/-- What a step can do that takes `e` off the script (none: the script is empty) and goes on from `s` to `t`. -/
inductive StepEffect (e : Option Event) (s : State) : State → Prop
  | idle : StepEffect e s s
  | enter (src : Source) : e = none ∨ e = some .core → s.halted = false → s.pending = some src →
      StepEffect e s (enterInterrupt src s)
  | instr (w : PWord) (i : Instr) (u : State) : e = none ∨ e = some .run ∨ e = some .core → s.halted = false →
      fetchWord s = some w → decode w = .ok i → exec i (settled s) = .next u → StepEffect e s (clocked s.cycles u)
  | clock (u : State) : ClockEffect s u → StepEffect e s (wakeByPads s u)
  | watchdog (u : State) : clocksWatchdog e → ClockEffect s u →
      StepEffect e s (wakeByPads s (tickWatchdog s.halted u))
  | pads (a b c : Byte) (d f : BitVec 4) : e = some (.pads a b c d f) →
      StepEffect e s (wakeByPads s (drivePads a b c d f s))
  | supply (low : Bool) : e = some (.supply low) → StepEffect e s { s with vddLow := low }
  | res : e = some .res → StepEffect e s (resReset s)
  | powerOn (x : Unknowns) : e = some (.powerOn x) → StepEffect e s (powerOn x s)
  | lowVoltage (x : Unknowns) (o p : Bool) : e = some (.lowVoltage x o p) →
      StepEffect e s (lowVoltageReset x o p s)

theorem StepEffect.of_runInstr {e : Option Event} (he : e = none ∨ e = some .run ∨ e = some .core)
    (hrun : s.halted = false) (h : runInstr decode s = .next t) : StepEffect e s t := by
  obtain ⟨w, i, u, hw, hi, hu, rfl⟩ := runInstr_next h
  exact .instr w i u he hrun hw hi hu

theorem StepEffect.of_coreStep {e : Option Event} (he : e = none ∨ e = some .core)
    (h : coreStep decode s = .next t) : StepEffect e s t := by
  obtain ⟨-, rfl⟩ | ⟨hrun, src, hsrc, rfl⟩ | ⟨hrun, -, h⟩ := coreStep_next h
  · exact .idle
  · exact .enter src he hrun hsrc
  · exact .of_runInstr (he.imp_right .inr) hrun h

theorem StepEffect.of_eventStep {e : Event} (h : eventStep decode e s = .next t) : StepEffect (some e) s t := by
  obtain ⟨rfl, -, rfl⟩ | ⟨rfl, hrun, h⟩ | ⟨rfl, h⟩ | ⟨c, rfl, rfl⟩ | ⟨rfl, rfl⟩ | ⟨rfl, -, rfl⟩ | ⟨rfl, -, rfl⟩ |
    ⟨a, b, c, d, f, rfl, rfl⟩ | ⟨low, rfl, rfl⟩ | ⟨rfl, rfl⟩ | ⟨x, rfl, rfl⟩ | ⟨x, o, p, rfl, rfl⟩ := eventStep_next h
  · exact .idle
  · exact .of_runInstr (.inr (.inl rfl)) hrun h
  · exact .of_coreStep (.inr rfl) h
  · obtain hu | ⟨rfl, hu⟩ := unitTick_clock c s
    · exact .clock _ hu
    · rw [hu]
      exact .watchdog s (.inr (.inr rfl)) (.refl s)
  · obtain ⟨u, hu, ht | ht⟩ := sysTick_clock s
    · rw [ht]
      exact .clock u hu
    · rw [ht]
      exact .watchdog u (.inr (.inl rfl)) hu
  · exact .idle
  · exact .watchdog (fsChains s) (.inl rfl) (fsChains_clock s)
  · exact .pads a b c d f rfl
  · exact .supply low rfl
  · exact .res rfl
  · exact .powerOn x rfl
  · exact .lowVoltage x o p rfl

/-- What a step can do. -/
theorem step_effect (h : step s = .next t) : StepEffect s.env.head? { s with env := s.env.tail } t := by
  obtain ⟨henv, h⟩ | ⟨e, rest, henv, h⟩ := step_next h
  · have hs : { s with env := s.env.tail } = s := by rw [henv, List.tail_nil, ← henv]
    rw [hs, henv]
    exact .of_coreStep (.inl rfl) h
  · rw [henv]
    exact .of_eventStep h

end Sys2Proof.Machine
end

section
/-! PROOF. The two invariants of every step: the legal states are kept, and only the listed events change TO or PD. -/

namespace Sys2Proof.Machine

variable {s t u : State} {i : Instr}

/-! ## Legal timers -/

theorem Timer.legal_iff (x : Timer) : x.legal = true ↔ ¬ (x.ton = true ∧ x.tn1 = false ∧ x.tn0 = false) ∧
    ((x.ton = true ∧ x.tn1 = true ∧ x.tn0 = true) ↔ (x.phase = .wait ∨ x.phase = .count)) := by
  cases hon : x.ton <;> cases h1 : x.tn1 <;> cases h0 : x.tn0 <;> cases hp : x.phase <;>
    simp [Timer.legal, hon, h1, h0, hp]

theorem Timer.Counted.legal {x y : Timer} (h : x.Counted y) (hx : x.legal = true) : y.legal = true := by
  rw [h.keeps]
  exact hx

/-- The pin's edges go from WAIT to COUNT with the timer on, and from COUNT to DONE with it off (R338). -/
theorem Timer.pinEdge_legal {x : Timer} (b : Bool) (hx : x.legal = true) : (x.pinEdge b).1.legal = true := by
  rw [Timer.legal_iff] at hx
  unfold Timer.pinEdge
  repeat' split
  all_goals simp_all [Timer.legal_iff]

/-- A control byte that is not refused leaves no timer on in mode 00, and the phase follows TON and the mode
(R336, R338, log 17). -/
theorem Timer.setControl_legal {x : Timer} {v : Byte} (hv : badControl v = false) (hx : x.legal = true) :
    (x.setControl v).legal = true := by
  simp only [badControl] at hv
  simp only [Timer.legal_iff, Timer.setControl] at hx ⊢
  generalize v.getLsbD 4 = on, v.getLsbD 6 = n0, v.getLsbD 7 = n1 at *
  split_ifs with hnew hold
  · simp_all
  · simp_all
  · cases n0 <;> simp_all

/-! ## Legal states -/

/-- The legal states but for the stack: the memories and the timers. -/
def State.dataLegal (s : State) : Prop := s.memWf = true ∧ s.t0.legal = true ∧ s.t1.legal = true

theorem legal_iff (s : State) : s.legal = true ↔ s.dataLegal ∧ s.stk.length ≤ 6 := by
  simp only [State.legal, State.dataLegal, Bool.and_eq_true, decide_eq_true_eq]
  tauto

theorem memWf_iff (s : State) : s.memWf = true ↔ Memory.wf 0x60 0xFF s.ram = true ∧
    Memory.wf 0x40 0x60 s.lcd = true ∧ Memory.wf 0 0xFFF s.pm = true := by
  simp only [State.memWf, Bool.and_eq_true, and_assoc]

theorem ClockEffect.dataLegal (h : ClockEffect s u) (hs : s.dataLegal) : u.dataLegal := by
  obtain ⟨hmem, h0, h1⟩ := hs
  refine ⟨?_, h.counts.t0.legal h0, h.counts.t1.legal h1⟩
  rw [h.unit]
  exact hmem

/-- Of the writes of special-function registers only those of TMR0C and TMR1C bear on the legality of a timer. -/
theorem writeSfr_dataLegal {a : Nat} {v : Byte} (hs : s.dataLegal) (h : writeSfr a v s = .ok t) : t.dataLegal := by
  obtain ⟨hmem, h0, h1⟩ := hs
  rcases writeSfr_cases h with rfl | ⟨-, rfl⟩ | ⟨-, rfl⟩ | ⟨-, rfl⟩ | ⟨-, rfl⟩ | ⟨-, rfl⟩ | ⟨-, rfl⟩ | ⟨-, rfl⟩ |
    ⟨-, rfl⟩ | ⟨-, rfl⟩ | ⟨-, rfl⟩ | ⟨-, hv, rfl⟩ | ⟨-, rfl⟩ | ⟨-, hv, rfl⟩ | ⟨-, rfl⟩ | ⟨-, rfl⟩ | ⟨-, rfl⟩
  pick_goal 12
  · exact ⟨hmem, Timer.setControl_legal hv h0, h1⟩
  pick_goal 13
  · exact ⟨hmem, h0, Timer.setControl_legal hv h1⟩
  all_goals exact ⟨hmem, h0, h1⟩

theorem storeTarget_cases {l : Loc} (h : storeTarget i s = some l) :
    ∃ m, i.storeOperand = some m ∧ resolve m s = .ok l := by
  unfold storeTarget at h
  split at h
  · cases h
  · next m hm =>
    split at h
    · next hl =>
      cases h
      exact ⟨m, hm, hl⟩
    · cases h

/-- A write keeps the canonical form of the memories, LCD locations being those that `resolve` answers (R87). -/
theorem writeLoc_dataLegal {l : Loc} {v : Byte} (hlcd : ∀ a, l = .lcd a → 0x40 ≤ a.toNat ∧ a.toNat ≤ 0x60)
    (hs : s.dataLegal) (h : writeLoc l v s = .ok t) : t.dataLegal := by
  obtain ⟨-, rfl⟩ | ⟨a, hl, rfl⟩ | ⟨a, -, -, hw⟩ | ⟨a, -, ha, rfl⟩ := writeLoc_cases h
  · exact hs
  · obtain ⟨hmem, htimers⟩ := hs
    obtain ⟨hram, hlcdWf, hpm⟩ := (memWf_iff s).mp hmem
    obtain ⟨hlo, hhi⟩ := hlcd a hl
    exact ⟨(memWf_iff _).mpr ⟨hram, Memory.write_wf hlcdWf hlo hhi, hpm⟩, htimers⟩
  · exact writeSfr_dataLegal hs hw
  · obtain ⟨hmem, htimers⟩ := hs
    obtain ⟨hram, hlcdWf, hpm⟩ := (memWf_iff s).mp hmem
    have hhi := a.isLt
    exact ⟨(memWf_iff _).mpr ⟨Memory.write_wf hram ha (by omega), hlcdWf, hpm⟩, htimers⟩

theorem exec_dataLegal (hs : s.dataLegal) (h : exec i s = .next t) : t.dataLegal := by
  cases hi : i.clearsWatchdog with
  | true =>
    rw [clearsWatchdog_effect hi h]
    exact hs
  | false =>
    obtain ⟨s1, s2, ⟨b0, b1, d, hs1⟩, hstore, hcore⟩ := exec_effect hi h
    have hread : s1.dataLegal := by
      rw [hs1]
      exact hs
    have hwrite : s2.dataLegal := by
      obtain rfl | ⟨l, v, hl, hw⟩ := hstore
      · exact hread
      · obtain ⟨m, -, hm⟩ := storeTarget_cases hl
        exact writeLoc_dataLegal (fun a ha => resolve_lcd_range (ha ▸ hm)) hread hw
    rw [hcore]
    exact hwrite

/-- CALL keeps the newest six return addresses (R29), and a return takes one off. -/
theorem exec_stack_length (hs : s.stk.length ≤ 6) (h : exec i s = .next t) : t.stk.length ≤ 6 := by
  obtain hstk | ⟨-, hstk⟩ | ⟨-, hstk⟩ := exec_stk h
  · rwa [hstk]
  · rw [hstk, List.length_cons, List.length_take]
    omega
  · rw [hstk, List.length_cons] at hs
    omega

theorem exec_legal (hs : s.legal = true) (h : exec i s = .next t) : t.legal = true := by
  obtain ⟨hdata, hstk⟩ := (legal_iff s).mp hs
  exact (legal_iff t).mpr ⟨exec_dataLegal hdata h, exec_stack_length hstk h⟩

theorem enterInterrupt_legal (src : Source) (hs : s.legal = true) : (enterInterrupt src s).legal = true := by
  obtain ⟨hdata, -⟩ := (legal_iff s).mp hs
  refine (legal_iff _).mpr ⟨hdata, ?_⟩
  simp only [enterInterrupt, pushPc_stk, List.length_cons, List.length_take]
  omega

theorem clocked_legal (n : Nat) (hs : s.legal = true) : (clocked n s).legal = true := by
  rw [clocked_cases]
  exact hs

theorem wakeByPads_legal (hu : u.legal = true) : (wakeByPads s u).legal = true := by
  rw [wakeByPads_eq]
  exact hu

theorem ClockEffect.legal (h : ClockEffect s u) (hs : s.legal = true) : u.legal = true := by
  obtain ⟨hdata, hstk⟩ := (legal_iff s).mp hs
  refine (legal_iff u).mpr ⟨h.dataLegal hdata, ?_⟩
  rw [h.unit]
  exact hstk

theorem chipReset_legal (hs : s.legal = true) : (chipReset s).legal = true := by
  obtain ⟨⟨hmem, -, -⟩, -⟩ := (legal_iff s).mp hs
  exact (legal_iff _).mpr ⟨⟨hmem, rfl, rfl⟩, Nat.zero_le 6⟩

theorem wdtTimeOut_legal (hs : s.legal = true) : (wdtTimeOut s).legal = true := by
  obtain ⟨hdata, -⟩ := (legal_iff s).mp hs
  unfold wdtTimeOut
  split
  · exact (legal_iff _).mpr ⟨hdata, Nat.zero_le 6⟩
  · exact chipReset_legal (s := s) hs

theorem tickWatchdog_legal (b : Bool) (hs : s.legal = true) : (tickWatchdog b s).legal = true := by
  obtain ⟨-, h⟩ | ⟨-, -, h⟩ | ⟨-, -, h⟩ := tickWatchdog_cases b s
  · rwa [h]
  · rw [h]
    exact hs
  · rw [h]
    exact wdtTimeOut_legal (s := { s with wdtCnt := 0, halted := b }) hs

theorem loseState_legal (x : Unknowns) (hs : s.legal = true) : (loseState x s).legal = true := by
  obtain ⟨⟨hmem, -, -⟩, -⟩ := (legal_iff s).mp hs
  obtain ⟨-, -, hpm⟩ := (memWf_iff s).mp hmem
  exact (legal_iff _).mpr ⟨⟨(memWf_iff _).mpr ⟨rfl, rfl, hpm⟩, rfl, rfl⟩, Nat.zero_le 6⟩

theorem resReset_legal (hs : s.legal = true) : (resReset s).legal = true := by
  unfold resReset
  split
  · exact chipReset_legal (s := s) hs
  · exact chipReset_legal (s := s) hs

theorem lowVoltageReset_legal (x : Unknowns) (o p : Bool) (hs : s.legal = true) :
    (lowVoltageReset x o p s).legal = true := by
  unfold lowVoltageReset
  split
  · exact loseState_legal (s := s) x hs
  · exact hs

/-! ## The pins -/

theorem externalPin_legal (src : Source) (a b : Bool) (hs : s.legal = true) :
    (externalPin src a b s).legal = true := by
  unfold externalPin raise
  repeat' split
  all_goals exact hs

theorem timer0Pin_legal (a b : Bool) (hs : s.legal = true) : (timer0Pin a b s).legal = true := by
  obtain ⟨⟨hmem, h0, h1⟩, hstk⟩ := (legal_iff s).mp hs
  have hedge : ({ s with t0 := (s.t0.pinEdge b).1 } : State).legal = true :=
    (legal_iff _).mpr ⟨⟨hmem, Timer.pinEdge_legal b h0, h1⟩, hstk⟩
  unfold timer0Pin
  dsimp only
  repeat' split
  · exact hs
  · exact ClockEffect.legal ⟨countTimer0_effect _, countTimer0_onlyRaises _, countTimer0_counts _⟩ hedge
  · exact hedge

theorem timer1Pin_legal (a b : Bool) (hs : s.legal = true) : (timer1Pin a b s).legal = true := by
  obtain ⟨⟨hmem, h0, h1⟩, hstk⟩ := (legal_iff s).mp hs
  have hedge : ({ s with t1 := (s.t1.pinEdge b).1 } : State).legal = true :=
    (legal_iff _).mpr ⟨⟨hmem, h0, Timer.pinEdge_legal b h1⟩, hstk⟩
  unfold timer1Pin
  dsimp only
  repeat' split
  · exact hs
  · exact ClockEffect.legal ⟨countTimer1_effect _, countTimer1_onlyRaises _, countTimer1_counts _⟩ hedge
  · exact hedge

theorem drivePads_legal (a b c : Byte) (d e : BitVec 4) (hs : s.legal = true) :
    (drivePads a b c d e s).legal = true :=
  timer1Pin_legal _ _ (timer0Pin_legal _ _ (externalPin_legal _ _ _ (externalPin_legal (s := { s with
    paDriven := a, paLevel := b, pb := c, pcDriven := d, pcLevel := e }) _ _ _ hs)))

/-- The lost-count bits do not matter to legality. -/
theorem settled_legal (hs : s.legal = true) : (settled s).legal = true := hs

theorem StepEffect.legal {e : Option Event} (h : StepEffect e s t) (hs : s.legal = true) : t.legal = true := by
  cases h with
  | idle => exact hs
  | enter src _ _ _ => exact enterInterrupt_legal src hs
  | instr w i u _ _ _ _ hu => exact clocked_legal _ (exec_legal (settled_legal hs) hu)
  | clock u hu => exact wakeByPads_legal (hu.legal hs)
  | watchdog u _ hu => exact wakeByPads_legal (tickWatchdog_legal _ (hu.legal hs))
  | pads a b c d f _ => exact wakeByPads_legal (drivePads_legal a b c d f hs)
  | supply low _ => exact hs
  | res _ => exact resReset_legal hs
  | powerOn x _ => exact loseState_legal (s := s) x hs
  | lowVoltage x o p _ => exact lowVoltageReset_legal x o p hs

/-- Settles O42: a legal state stays legal when its event is taken off, and each case of a step keeps it legal. -/
theorem everyStepKeepsLegalStates : Obligations.EveryStepKeepsLegalStates :=
  fun s _ hs h => (step_effect h).legal (s := { s with env := s.env.tail }) hs

/-! ## TO and PD -/

/-- TO and PD of two states agree. -/
def SameToPd (s t : State) : Prop := t.tof = s.tof ∧ t.pdf = s.pdf

theorem UnitEffect.sameToPd (h : UnitEffect s u) : SameToPd s u := by
  rw [h]
  exact ⟨rfl, rfl⟩

theorem wakeByPads_toPd (s u : State) : SameToPd u (wakeByPads s u) := by
  rw [wakeByPads_eq]
  exact ⟨rfl, rfl⟩

theorem clocked_toPd (n : Nat) (u : State) : SameToPd u (clocked n u) := by
  rw [clocked_cases]
  exact ⟨rfl, rfl⟩

theorem SameToPd.trans (h : SameToPd s u) (k : SameToPd u t) : SameToPd s t :=
  ⟨k.1.trans h.1, k.2.trans h.2⟩

/-- The watchdog instructions and HALT clear TO, or do nothing to TO and PD (R33, R273 to R275, R278). -/
theorem clearsWatchdog_toPd (hi : i.clearsWatchdog = true) (h : exec i s = .next t) :
    t.tof = false ∨ SameToPd s t := by
  obtain rfl | rfl | rfl | rfl := (clearsWatchdog_iff i).mp hi
  case inr.inr.inr =>
    cases h
    exact .inl rfl
  all_goals
    simp only [exec, execClrWdt, execClrWdt1, execClrWdt2] at h
    split_ifs at h <;> cases h <;> first | exact .inl rfl | exact .inr ⟨rfl, rfl⟩

/-- An instruction changes TO or PD only as one of the watchdog group, by clearing TO. -/
theorem exec_toPd (h : exec i s = .next t) : (i.clearsWatchdog = true ∧ t.tof = false) ∨ SameToPd s t := by
  cases hi : i.clearsWatchdog with
  | true => exact (clearsWatchdog_toPd hi h).imp_left fun ht => ⟨rfl, ht⟩
  | false => exact .inr ((flagFrame i s t h).1 hi)

/-- A time-out sets TO and leaves PD, in HALT and out of it (R405, R406). -/
theorem wdtTimeOut_toPd (s : State) : (wdtTimeOut s).tof = true ∧ (wdtTimeOut s).pdf = s.pdf := by
  unfold wdtTimeOut
  split <;> exact ⟨rfl, rfl⟩

/-- The watchdog's cycle changes TO or PD only by its time-out. -/
theorem tickWatchdog_toPd (b : Bool) (s : State) : SameToPd s (tickWatchdog b s) ∨
    (s.opt.wdtEn = true ∧ s.wdtCnt = 0xFFFF ∧ (tickWatchdog b s).tof = true ∧ (tickWatchdog b s).pdf = s.pdf) := by
  obtain ⟨-, h⟩ | ⟨-, -, h⟩ | ⟨hen, hcnt, h⟩ := tickWatchdog_cases b s
  · rw [h]
    exact .inl ⟨rfl, rfl⟩
  · rw [h]
    exact .inl ⟨rfl, rfl⟩
  · rw [h]
    exact .inr ⟨hen, BitVec.eq_of_toNat_eq (Nat.succ.inj hcnt), wdtTimeOut_toPd _⟩

/-- What changes TO or PD in a step that takes `e` off the script (R36). -/
def ToPdChange (e : Option Event) (s t : State) : Prop :=
  ((e = none ∨ e = some .run ∨ e = some .core) ∧ s.halted = false ∧
    ∃ w i, fetchWord s = some w ∧ decode w = .ok i ∧ i.clearsWatchdog = true ∧ t.tof = false) ∨
  (clocksWatchdog e ∧ s.opt.wdtEn = true ∧ s.wdtCnt = 0xFFFF ∧ t.tof = true ∧ t.pdf = s.pdf) ∨
  (e = some .res ∧ s.halted = true ∧ t.tof = false ∧ t.pdf = true) ∨
  (∃ x, e = some (.powerOn x) ∧ t.tof = false ∧ t.pdf = false) ∨
  (∃ x o p, e = some (.lowVoltage x o p) ∧ s.opt.lvrEn = true)

theorem StepEffect.toPd {e : Option Event} (h : StepEffect e s t) : SameToPd s t ∨ ToPdChange e s t := by
  cases h with
  | idle => exact .inl ⟨rfl, rfl⟩
  | enter src _ _ _ => exact .inl ⟨rfl, rfl⟩
  | instr w i u he hrun hw hi hu =>
    have hclocked := clocked_toPd s.cycles u
    obtain ⟨hclears, htof⟩ | hsame := exec_toPd hu
    · exact .inr (.inl ⟨he, hrun, w, i, hw, hi, hclears, hclocked.1.trans htof⟩)
    · exact .inl (SameToPd.trans hsame hclocked)
  | clock u hu => exact .inl (hu.unit.sameToPd.trans (wakeByPads_toPd s u))
  | watchdog u he hu =>
    have hwake := wakeByPads_toPd s (tickWatchdog s.halted u)
    have hsame := hu.unit.sameToPd
    have hopt : u.opt = s.opt := hu.raises.sameOptions
    have hcnt : u.wdtCnt = s.wdtCnt := by rw [hu.unit]
    obtain hkeep | ⟨hen, hfull, htof, hpdf⟩ := tickWatchdog_toPd s.halted u
    · exact .inl ((hsame.trans hkeep).trans hwake)
    · exact .inr (.inr (.inl ⟨he, hopt ▸ hen, hcnt ▸ hfull, hwake.1.trans htof,
        (hwake.2.trans hpdf).trans hsame.2⟩))
  | pads a b c d f _ =>
    have hpads : SameToPd s (drivePads a b c d f s) := (drivePads_effect a b c d f s).sameToPd
    exact .inl (hpads.trans (wakeByPads_toPd s _))
  | supply low _ => exact .inl ⟨rfl, rfl⟩
  | res he =>
    unfold resReset
    split
    · next hh => exact .inr (.inr (.inr (.inl ⟨he, hh, rfl, rfl⟩)))
    · exact .inl ⟨rfl, rfl⟩
  | powerOn x he => exact .inr (.inr (.inr (.inr (.inl ⟨x, he, rfl, rfl⟩))))
  | lowVoltage x o p he =>
    unfold lowVoltageReset
    split
    · next hen => exact .inr (.inr (.inr (.inr (.inr ⟨x, o, p, he, hen⟩))))
    · exact .inl ⟨rfl, rfl⟩

/-- Settles O45: of the cases of a step, those that do not keep TO and PD are the listed ones. -/
theorem onlyListedEventsChangeToAndPd : Obligations.OnlyListedEventsChangeToAndPd := by
  intro s t h hne
  obtain ⟨htof, hpdf⟩ | hchange := (step_effect h).toPd
  · exact absurd hpdf (hne.resolve_left (not_not_intro htof))
  · simpa only [ToPdChange, clocksWatchdog, fetchWord, List.head?_eq_none_iff] using hchange

end Sys2Proof.Machine
end

section
/-! PROOF. The resets: what each of them sets, and what it leaves. -/

namespace Sys2Proof.Machine

variable {s t u : State} {e : Event} {rest : List Event}

/-! ## What a chip reset sets and keeps -/

/-- The reset values of R401 do not depend on the timers' counters and preloads. -/
theorem afterReset_hasResetValues (s : State) (c0 p0 c1 p1 : Byte) :
    ({ chipReset s with t0 := Timer.afterReset c0 p0, t1 := Timer.afterReset c1 p1 } : State).hasResetValues := by
  have hrtcc : (chipReset s).rtcc = 0x07 := by
    simp only [State.rtcc, State.lvdo, State.lvdEnabled, chipReset, Bool.and_false, Bool.false_and]
    rfl
  exact ⟨rfl, rfl, rfl, rfl, rfl, rfl, rfl, rfl, hrtcc, rfl, rfl, rfl, rfl, rfl, rfl, rfl, rfl, rfl, rfl⟩

theorem chipReset_hasResetValues (s : State) : (chipReset s).hasResetValues :=
  afterReset_hasResetValues s _ _ _ _

theorem chipReset_keepsUnchanged (s : State) : s.keepsUnchanged (chipReset s) :=
  ⟨rfl, rfl, rfl, rfl, rfl, rfl, rfl, rfl, rfl, rfl, rfl, rfl⟩

theorem loseState_hasPowerOnValues (x : Unknowns) (s : State) : (loseState x s).hasPowerOnValues x :=
  ⟨afterReset_hasResetValues s _ _ _ _, rfl, rfl, rfl, rfl, rfl, rfl, rfl, rfl, rfl, rfl, rfl, fun _ => ⟨rfl, rfl⟩⟩

/-- RES is a chip reset with TO and PD by R66. -/
theorem resReset_eq (s : State) :
    resReset s = { chipReset s with tof := !s.halted && s.tof, pdf := s.halted || s.pdf } := by
  unfold resReset
  cases s.halted <;> rfl

theorem lowVoltageReset_of_enabled {x : Unknowns} {o p : Bool} (h : s.opt.lvrEn = true) :
    lowVoltageReset x o p s = { loseState x s with tof := o, pdf := p } := if_pos h

theorem lowVoltageReset_of_disabled {x : Unknowns} {o p : Bool} (h : s.opt.lvrEn = false) :
    lowVoltageReset x o p s = s := by
  simp only [lowVoltageReset, State.lvrEnabled, h, Bool.false_eq_true, if_false]

theorem wdtTimeOut_of_halted (h : s.halted = true) : wdtTimeOut s = warmReset s := if_pos h

theorem wdtTimeOut_of_running (h : s.halted = false) : wdtTimeOut s = { chipReset s with tof := true } := by
  simp only [wdtTimeOut, h, Bool.false_eq_true, if_false]

theorem wdtTimeOut_running (s : State) : (wdtTimeOut s).halted = false := by
  unfold wdtTimeOut
  split <;> rfl

/-! ## The step at each reset -/

theorem step_res (henv : s.env = .res :: rest) : step s = .next (resReset { s with env := rest }) := by
  simp only [step, nextStep, henv, eventStep]

theorem step_powerOn {x : Unknowns} (henv : s.env = .powerOn x :: rest) :
    step s = .next (powerOn x { s with env := rest }) := by
  simp only [step, nextStep, henv, eventStep]

theorem step_lowVoltage {x : Unknowns} {o p : Bool} (henv : s.env = .lowVoltage x o p :: rest) :
    step s = .next (lowVoltageReset x o p { s with env := rest }) := by
  simp only [step, nextStep, henv, eventStep]

/-- At its 65536th cycle the watchdog times out, and the machine runs. -/
theorem tickWatchdog_timeOut (b : Bool) (hen : s.opt.wdtEn = true) (hcnt : s.wdtCnt = 0xFFFF) :
    tickWatchdog b s = wdtTimeOut { s with wdtCnt := 0, halted := b } := by
  simp only [tickWatchdog, hen, hcnt]
  rfl

/-- The state in which the watchdog has its cycle in the event `e`: `s`, with what the clocks do before it in the same
event (log 15). -/
def beforeWatchdog (s : State) : Event → State
  | .fsCycle => fsChains s
  | .sysClock => fsChains (div4Timers (sysTimers s))
  | .run | .core | .unit _ | .pads _ _ _ _ _ | .supply _ | .res | .powerOn _ | .lowVoltage _ _ _ => s

theorem beforeWatchdog_clock (s : State) (e : Event) : ClockEffect s (beforeWatchdog s e) := by
  cases e
  case fsCycle => exact fsChains_clock s
  case sysClock => exact ((sysTimers_clock s).trans (div4Timers_clock _)).trans (fsChains_clock _)
  all_goals exact .refl s

theorem sysClockRuns_of (h : s.halted = false ∨ s.opt.osc = .crystal32768) : s.sysClockRuns = true := by
  obtain h | h := h <;> simp [State.sysClockRuns, h]

/-- Every fourth system clock is the watchdog's cycle where fs is system clock/4 (R331, R346, log 26). -/
theorem sysTick_of_phase3 (hruns : s.sysClockRuns = true) (hphase : s.tPhase = 3) (hclk : s.opt.wdtClk = .sysDiv4) :
    sysTick s = tickWatchdog s.halted (beforeWatchdog s .sysClock) := by
  have hopt : (sysTimers s).opt = s.opt := (sysTimers_clock s).raises.sameOptions
  calc
    sysTick s = div4Tick s.halted (sysTimers s) := by
      simp only [sysTick, hruns, hphase, Bool.not_true, Bool.false_eq_true, if_false, if_true, sysTimers]
    _ = fsTick s.halted (div4Timers (sysTimers s)) := if_pos (by rw [hopt, hclk])

/-- In its cycle of fs the watchdog has its turn after the units that share the event. -/
theorem eventStep_of_fsCycleAt (h : s.fsCycleAt .watchdog e) :
    eventStep decode e s = .next (wakeByPads s (tickWatchdog s.halted (beforeWatchdog s e))) := by
  obtain ⟨hclk, rfl | rfl⟩ | ⟨hclk, hruns, ⟨rfl, hphase⟩ | rfl⟩ := h
  · simp only [eventStep, hclk, if_false, fsTick_eq, beforeWatchdog]
  · simp only [eventStep, unitTick, State.fsRuns, hclk, decide_false, Bool.not_false, Bool.true_or, if_true,
      beforeWatchdog]
  · simp only [eventStep, sysTick_of_phase3 (sysClockRuns_of hruns) hphase hclk]
  · simp only [eventStep, unitTick, State.fsRuns, sysClockRuns_of hruns, Bool.or_true, if_true, beforeWatchdog]

/-- The step at the watchdog's 65536th cycle is its time-out, whose reset ends HALT (R347). -/
theorem step_watchdogTimeOut (henv : s.env = e :: rest) (h : s.fsCycleAt .watchdog e) (hen : s.opt.wdtEn = true)
    (hcnt : s.wdtCnt = 0xFFFF) :
    step s = .next (wdtTimeOut
      { beforeWatchdog { s with env := rest } e with wdtCnt := 0, halted := s.halted }) := by
  have hclock := beforeWatchdog_clock { s with env := rest } e
  have hen' : (beforeWatchdog { s with env := rest } e).opt.wdtEn = true := by rw [hclock.unit]; exact hen
  have hcnt' : (beforeWatchdog { s with env := rest } e).wdtCnt = 0xFFFF := by rw [hclock.unit]; exact hcnt
  have hevent := eventStep_of_fsCycleAt (s := { s with env := rest }) h
  rw [tickWatchdog_timeOut _ hen' hcnt', wakeByPads_running (wdtTimeOut_running _)] at hevent
  simp only [step, nextStep, henv]
  exact hevent

/-! ## The counters in the event of a time-out -/

/-- Where neither chain times out, a cycle of fs moves the dividers alone (R351, R352). -/
theorem fsChains_quiet (h : s.noTimeOutDue) :
    fsChains s = { s with tbCnt := s.tbCnt + 1, rtcCnt := s.rtcCnt + 1, bzCnt := s.bzCnt + 1 } := by
  obtain ⟨htb, hrtc⟩ := h
  simp only [fsChains, tickTimeBase, Nat.not_le.mpr htb, tickRtc, Nat.not_le.mpr hrtc, if_false, tickBuzzer]

theorem clockTimer0_off (h : s.t0.ton = false) : clockTimer0 s = s := by
  unfold clockTimer0 countTimer0
  simp only [Timer.countEvent_off h, Bool.false_eq_true, if_false, ite_self]

theorem clockTimer1_off (h : s.t1.ton = false) : clockTimer1 s = s := by
  unfold clockTimer1 countTimer1
  simp only [Timer.countEvent_off h, Bool.false_eq_true, if_false, ite_self]

/-- With both timers off the system clock moves its own phase alone (R333). -/
theorem sysClockTimers_off (h0 : s.t0.ton = false) (h1 : s.t1.ton = false) :
    div4Timers (sysTimers s) = { s with tPhase := s.tPhase + 1 } := by
  simp only [div4Timers, sysTimers, tickTimer0, tickTimer1, tickTimer1Div4, clockTimer0_off, clockTimer1_off, h0, h1,
    ite_self]

/-- Where no chain times out and the system clock counts at no timer, only the dividers move before the watchdog. -/
theorem beforeWatchdog_quiet (hdue : s.noTimeOutDue) (hoff : e = .sysClock → s.t0.ton = false ∧ s.t1.ton = false) :
    beforeWatchdog s e = { s with
      tbCnt := (beforeWatchdog s e).tbCnt
      rtcCnt := (beforeWatchdog s e).rtcCnt
      bzCnt := (beforeWatchdog s e).bzCnt
      tPhase := (beforeWatchdog s e).tPhase } := by
  cases e
  case fsCycle => simp only [beforeWatchdog, fsChains_quiet hdue]
  case sysClock =>
    obtain ⟨h0, h1⟩ := hoff rfl
    have hdue' : State.noTimeOutDue { s with tPhase := s.tPhase + 1 } := hdue
    simp only [beforeWatchdog, sysClockTimers_off h0 h1, fsChains_quiet hdue']
  all_goals rfl

/-- Count events leave the control register (R333). -/
theorem Timer.Counted.control {x y : Timer} (h : x.Counted y) : y.control = x.control := by
  rw [h.keeps]
  rfl

/-! ## The statements -/

/-- The state before the watchdog keeps what no reset but power-on changes, the timers' counters apart. -/
theorem beforeWatchdog_keepsUnchanged (s : State) (e : Event) :
    s.keepsUnchanged { beforeWatchdog s e with
      t0 := { (beforeWatchdog s e).t0 with cnt := s.t0.cnt }
      t1 := { (beforeWatchdog s e).t1 with cnt := s.t1.cnt } } := by
  have h := beforeWatchdog_clock s e
  have h0 := congrArg Timer.pre h.counts.t0.keeps
  have h1 := congrArg Timer.pre h.counts.t1.keeps
  generalize beforeWatchdog s e = u at *
  rw [h.unit]
  exact ⟨rfl, rfl, rfl, rfl, rfl, rfl, h0, rfl, h1, rfl, rfl, rfl⟩

/-- Settles O51: the time-out in HALT is `warmReset` of the state before the watchdog's turn, which the clocks alone have
changed. -/
theorem watchdogInHaltIsWarmReset : Obligations.WatchdogInHaltIsWarmReset := by
  intro s e rest henv hcycle hen hhalt hcnt
  have hstep := step_watchdogTimeOut henv hcycle hen hcnt
  rw [wdtTimeOut_of_halted (by exact hhalt)] at hstep
  have hclock := beforeWatchdog_clock { s with env := rest } e
  have hkeeps := beforeWatchdog_keepsUnchanged { s with env := rest } e
  have hquiet := beforeWatchdog_quiet (s := { s with env := rest }) (e := e)
  generalize beforeWatchdog { s with env := rest } e = u at *
  obtain ⟨hunit, hraises, ⟨hc0, hc1, hint0, hint1⟩⟩ := hclock
  have keeps {α : Type} (f : State → α) := congrArg f hunit
  exact ⟨_, hstep, rfl, rfl, rfl, rfl, keeps State.pdf, hkeeps, keeps State.bp, keeps State.emi, keeps State.en, hint0,
    hint1, hraises.keepsRequests, keeps State.rt, keeps State.lvdc, keeps State.qosc, keeps State.paLatch,
    keeps State.pcLatch, hc0.control, hc1.control,
    fun hdue hoff => congrArg (fun u : State => warmReset { u with wdtCnt := 0, halted := s.halted })
      (hquiet hdue hoff)⟩

/-- Settles O52: each row of R66 is its reset's TO and PD. -/
theorem toAndPdAfterEachReset : Obligations.ToAndPdAfterEachReset := by
  intro s e rest x
  refine ⟨fun henv => ⟨_, step_powerOn henv, rfl, rfl⟩, fun henv hrun => ⟨_, step_res henv, ?_⟩,
    fun henv hhalt => ⟨_, step_res henv, ?_⟩, fun henv hcycle hen hcnt => ?_⟩
  · simp only [resReset_eq, hrun, Bool.not_false, Bool.true_and, Bool.false_or, and_self]
  · simp only [resReset_eq, hhalt, Bool.not_true, Bool.false_and, Bool.true_or, and_self]
  · have hstep := step_watchdogTimeOut henv hcycle hen hcnt
    obtain ⟨htof, hpdf⟩ := wdtTimeOut_toPd
      { beforeWatchdog { s with env := rest } e with wdtCnt := 0, halted := s.halted }
    have hpdf' := hpdf.trans (beforeWatchdog_clock { s with env := rest } e).unit.sameToPd.2
    exact ⟨fun _ => ⟨_, hstep, htof, hpdf'⟩, fun _ hset => ⟨_, hstep, htof, hpdf'.trans hset⟩⟩

/-- The counters stay where both timers are off, where the watchdog alone has the cycle, or where no chain times out in a
cycle of fs. -/
theorem beforeWatchdog_keepsCounters
    (h : (s.t0.ton = false ∧ s.t1.ton = false) ∨ e = .unit .watchdog ∨ (e = .fsCycle ∧ s.noTimeOutDue)) :
    (beforeWatchdog s e).t0.cnt = s.t0.cnt ∧ (beforeWatchdog s e).t1.cnt = s.t1.cnt := by
  obtain ⟨h0, h1⟩ | rfl | ⟨rfl, hdue⟩ := h
  · have hcounts := (beforeWatchdog_clock s e).counts
    exact ⟨congrArg Timer.cnt (hcounts.t0.off h0), congrArg Timer.cnt (hcounts.t1.off h1)⟩
  · exact ⟨rfl, rfl⟩
  · rw [beforeWatchdog_quiet (e := .fsCycle) hdue nofun]
    exact ⟨rfl, rfl⟩

/-- The watchdog's time-out outside HALT: the chip reset of the state before the watchdog's turn. -/
theorem step_watchdogTimeOut_running (henv : s.env = e :: rest) (h : s.fsCycleAt .watchdog e)
    (hen : s.opt.wdtEn = true) (hcnt : s.wdtCnt = 0xFFFF) (hrun : s.halted = false) :
    step s = .next { chipReset { beforeWatchdog { s with env := rest } e with wdtCnt := 0, halted := s.halted } with
      tof := true } := by
  rw [step_watchdogTimeOut henv h hen hcnt, wdtTimeOut_of_running (by exact hrun)]

/-- Settles O53: each reset is `chipReset`, or `loseState`, of the state before it. -/
theorem chipResetsSetAndKeep : Obligations.ChipResetsSetAndKeep := by
  intro s e rest x o p
  refine ⟨fun henv => ⟨_, step_res henv, ?_⟩, fun henv hcycle hen hcnt hrun => ?_,
    fun henv => ⟨_, step_powerOn henv, loseState_hasPowerOnValues x _, rfl, rfl⟩,
    fun henv => ⟨fun hen => ⟨_, step_lowVoltage henv, ?_⟩, fun hen => ?_⟩⟩
  · rw [resReset_eq]
    exact ⟨chipReset_hasResetValues _, chipReset_keepsUnchanged { s with env := rest }⟩
  · have hkeeps := beforeWatchdog_keepsUnchanged { s with env := rest } e
    refine ⟨_, step_watchdogTimeOut_running henv hcycle hen hcnt hrun, chipReset_hasResetValues _, hkeeps,
      fun hcase => ?_⟩
    obtain ⟨h0, h1⟩ := beforeWatchdog_keepsCounters (s := { s with env := rest }) hcase
    obtain ⟨hacc, hmp0, hmp1, htblp, htblh, -, hpre0, -, hpre1, hflags, hram, hlcd⟩ := hkeeps
    exact ⟨hacc, hmp0, hmp1, htblp, htblh, h0, hpre0, h1, hpre1, hflags, hram, hlcd⟩
  · rw [lowVoltageReset_of_enabled (by exact hen)]
    exact ⟨loseState_hasPowerOnValues x _, rfl, rfl⟩
  · rw [step_lowVoltage henv, lowVoltageReset_of_disabled (by exact hen)]

/-- Settles O44: the values of R65 column 1 are written out in `State.reset`. -/
theorem resetStateHasKnownValues : Obligations.ResetStateHasKnownValues :=
  ⟨⟨rfl, rfl, rfl, rfl, rfl, rfl, rfl, rfl, rfl, rfl, rfl, rfl, rfl, rfl, rfl, rfl, rfl, rfl, rfl⟩, rfl, rfl,
    fun _ => rfl, fun _ => rfl⟩

end Sys2Proof.Machine
end

section
/-! PROOF. The results of the memory forms: the words, the arithmetic of the operations, and each operand form run forward. -/

namespace Sys2Proof.Machine

/-! ## Words -/

/-- The word of formats M and I is the row's match value with the operand added (R125). -/
theorem encodeSlot_eq_wordWith (slot : BitVec 6) (m : Byte) :
    encodeSlot slot m = wordWith (256 * slot.toNat) m := by
  apply BitVec.eq_of_toNat_eq
  have hslot := slot.isLt
  have hm := m.isLt
  have hword : (encodeSlot slot m).toNat = slot.toNat * 256 + m.toNat := by
    rw [encodeSlot, BitVec.toNat_append, ← Nat.shiftLeft_add_eq_or_of_lt hm, Nat.shiftLeft_eq, BitVec.toNat_append]
    simp
  rw [hword, wordWith, BitVec.toNat_ofNat]
  omega

/-! ## Arithmetic -/

theorem toInt_eq (a : Byte) : a.toInt = if a.toNat < 128 then (a.toNat : Int) else a.toNat - 256 := by
  rw [BitVec.toInt_eq_toNat_cond]
  split <;> split <;> omega

/-- The adder of R150 gives the sum, with the flags of R32 and R164. -/
theorem add8_eq (a b : Byte) (cin : Bool) :
    add8 a b cin = (a + b + BitVec.ofNat 8 cin.toNat, Flags.ofSum a b cin) := by
  have ha := a.isLt
  have hb := b.isLt
  have hc : cin.toNat ≤ 1 := by cases cin <;> decide
  have hres : BitVec.ofNat 8 (a.toNat + b.toNat + cin.toNat) = a + b + BitVec.ofNat 8 cin.toNat := by
    apply BitVec.eq_of_toNat_eq
    simp only [BitVec.toNat_add, BitVec.toNat_ofNat]
    omega
  have hz : BitVec.ofNat 8 (a.toNat + b.toNat + cin.toNat) = 0 ↔ (a.toNat + b.toNat + cin.toNat) % 256 = 0 := by
    rw [← BitVec.toNat_inj, BitVec.toNat_ofNat]
    rfl
  have hov : (decide (128 ≤ a.toNat % 128 + b.toNat % 128 + cin.toNat) != decide (256 ≤ a.toNat + b.toNat + cin.toNat)) =
      (Flags.ofSum a b cin).ov := by
    rw [Bool.eq_iff_iff, bne_iff_ne, ne_eq, decide_eq_decide]
    simp only [Flags.ofSum, decide_eq_true_eq, toInt_eq]
    split <;> split <;> omega
  simp only [add8, hres, hov, Flags.ofSum]
  simp only [← hres, hz]

/-- A difference is the sum with the complement (R163): its flags say that no borrow took place. -/
theorem ofSum_not (a b : Byte) (cin : Bool) : Flags.ofSum a (~~~b) cin = Flags.ofDifference a b cin := by
  have ha := a.isLt
  have hb := b.isLt
  have hnot : (~~~b).toNat = 255 - b.toNat := BitVec.toNat_not
  simp only [Flags.ofSum, Flags.ofDifference, toInt_eq, hnot, Flags.mk.injEq, decide_eq_decide]
  cases cin
  all_goals
    simp only [Bool.not_false, Bool.not_true, Bool.toNat_false, Bool.toNat_true]
    refine ⟨by omega, by omega, by omega, ?_⟩
    split <;> split <;> split <;> omega

theorem add_not_eq_sub (a b : Byte) (cin : Bool) :
    a + ~~~b + BitVec.ofNat 8 cin.toNat = a - b - BitVec.ofNat 8 (!cin).toNat := by
  apply BitVec.eq_of_toNat_eq
  have ha := a.isLt
  have hb := b.isLt
  cases cin <;> simp [BitVec.toNat_sub, BitVec.toNat_add, BitVec.toNat_not] <;> omega

theorem aluAdd_eq (a b : Byte) (f : Flags) : aluAdd a f b = (a + b, Flags.ofSum a b false) := by
  rw [aluAdd, add8_eq]
  simp

theorem aluAdc_eq (a b : Byte) (f : Flags) :
    aluAdc a f b = (a + b + BitVec.ofNat 8 f.c.toNat, Flags.ofSum a b f.c) := add8_eq a b f.c

theorem aluSub_eq (a b : Byte) (f : Flags) : aluSub a f b = (a - b, Flags.ofDifference a b true) := by
  rw [aluSub, add8_eq, ofSum_not, add_not_eq_sub]
  simp

theorem aluSbc_eq (a b : Byte) (f : Flags) :
    aluSbc a f b = (a - b - BitVec.ofNat 8 (!f.c).toNat, Flags.ofDifference a b f.c) := by
  rw [aluSbc, add8_eq, ofSum_not, add_not_eq_sub]

theorem withZ_eq (r : Byte) (f : Flags) : withZ r f = (r, f.zeroOf r) := by
  have hz : r = 0 ↔ r.toNat = 0 := by
    rw [← BitVec.toNat_inj]
    rfl
  simp only [withZ, Flags.zeroOf, hz]

theorem aluCpl_eq (a b : Byte) (f : Flags) : aluCpl a f b = (0xFF - b, f.zeroOf (0xFF - b)) := by
  have hnot : ~~~b = 0xFF - b := (BitVec.allOnes_sub_eq_not b).symm
  rw [aluCpl, withZ_eq, hnot]

theorem rotateRightIn_eq (c : Bool) (v : Byte) : rotateRightIn c v = (v >>> 1) ||| (if c then 0x80 else 0) := by
  cases c <;> revert v <;> decide

theorem rotateLeftIn_eq (c : Bool) (v : Byte) : rotateLeftIn c v = (v <<< 1) ||| (if c then 0x01 else 0) := by
  cases c <;> revert v <;> decide

/-! ## The operand forms, run forward -/

variable {f : AluOp} {g : Byte → Byte} {m v r : Byte} {s s1 s2 : State} {l : Loc}

/-- A read leaves the accumulator and the flags. -/
theorem readLoc_fetched_core (h : readLoc l (fetched s) = .ok (v, s1)) : s1.acc = s.acc ∧ s1.flags = s.flags := by
  have hcore : CoreFrame none (fetched s) s1 := (readLoc_effect h).core
  exact ⟨hcore.acc nofun, hcore.flags nofun⟩

theorem flagDest_of_ne (hl : resolve m s = .ok l) (hne : l ≠ Loc.statusReg) : flagDest m (fetched s) = .ok l := by
  simp only [flagDest, resolve_fetched, hl, hne, if_false]

theorem flagDest_status (hl : resolve m s = .ok Loc.statusReg) :
    flagDest m (fetched s) = .error (.refused .statusDest) := by
  simp only [flagDest, resolve_fetched, hl, if_true]

/-- A read-modify-write with flags is refused where its destination is STATUS (R35, D11). -/
theorem memFromMem_status (f : AluOp) (hl : resolve m s = .ok Loc.statusReg) :
    memFromMem f m s = .refused .statusDest := by
  simp only [memFromMem, flagDest_status hl, outcome]

/-- A read-modify-write with flags elsewhere: it reads, stores the result, and writes the flags (R93). -/
theorem memFromMem_of_store {fl : Flags} (hl : resolve m s = .ok l) (hne : l ≠ Loc.statusReg)
    (hr : readLoc l (fetched s) = .ok (v, s1)) (hf : f s.acc s.flags v = (r, fl)) (hw : storeLoc l r s1 = .ok s2) :
    memFromMem f m s = .next { s2 with flags := fl } := by
  obtain ⟨hacc, hflags⟩ := readLoc_fetched_core hr
  simp only [memFromMem, flagDest_of_ne hl hne, hr, hacc, hflags, hf, hw, outcome]

/-- Settles O12: `memFromMem` run forward, with the sums and differences of the adder. -/
theorem memoryArithmetic : Obligations.MemoryArithmetic := by
  intro m v s s1 s2 l
  refine ⟨encodeSlot_eq_wordWith _ m, encodeSlot_eq_wordWith _ m, encodeSlot_eq_wordWith _ m,
    encodeSlot_eq_wordWith _ m, fun hl => ?_, fun hl hne hr => ?_⟩
  · exact ⟨memFromMem_status _ hl, memFromMem_status _ hl, memFromMem_status _ hl, memFromMem_status _ hl⟩
  · exact ⟨memFromMem_of_store hl hne hr (aluAdd_eq _ _ _), memFromMem_of_store hl hne hr (aluAdc_eq _ _ _),
      memFromMem_of_store hl hne hr (aluSub_eq _ _ _), memFromMem_of_store hl hne hr (aluSbc_eq _ _ _)⟩

/-- Settles O13: `memFromMem` run forward, with operations that write Z alone. -/
theorem memoryLogic : Obligations.MemoryLogic := by
  intro m v s s1 s2 l
  refine ⟨encodeSlot_eq_wordWith _ m, encodeSlot_eq_wordWith _ m, encodeSlot_eq_wordWith _ m,
    encodeSlot_eq_wordWith _ m, encodeSlot_eq_wordWith _ m, encodeSlot_eq_wordWith _ m, fun hl => ?_,
    fun hl hne hr => ?_⟩
  · exact ⟨memFromMem_status _ hl, memFromMem_status _ hl, memFromMem_status _ hl, memFromMem_status _ hl,
      memFromMem_status _ hl, memFromMem_status _ hl⟩
  · exact ⟨memFromMem_of_store hl hne hr (withZ_eq _ _), memFromMem_of_store hl hne hr (withZ_eq _ _),
      memFromMem_of_store hl hne hr (withZ_eq _ _), memFromMem_of_store hl hne hr (aluCpl_eq _ _ _),
      memFromMem_of_store hl hne hr (withZ_eq _ _), memFromMem_of_store hl hne hr (withZ_eq _ _)⟩

/-- Settles O14: `memFromMem` run forward, with the rotates through carry. -/
theorem memoryRotateThroughCarry : Obligations.MemoryRotateThroughCarry := by
  intro m v s s1 s2 l
  refine ⟨encodeSlot_eq_wordWith _ m, encodeSlot_eq_wordWith _ m,
    fun hl => ⟨memFromMem_status _ hl, memFromMem_status _ hl⟩, fun hl hne hr => ?_⟩
  rw [← rotateRightIn_eq, ← rotateLeftIn_eq]
  exact ⟨memFromMem_of_store hl hne hr rfl, memFromMem_of_store hl hne hr rfl⟩

/-! ## The decimal adjustment -/

theorem execDaa_status (hl : resolve m s = .ok Loc.statusReg) : execDaa m s = .refused .statusDest := by
  simp only [execDaa, flagDest_status hl, outcome]

theorem execDaa_corner (hl : resolve m s = .ok l) (hne : l ≠ Loc.statusReg)
    (hadjust : daaAdjust s.acc s.flags = none) : execDaa m s = .refused .daaCorner := by
  simp only [execDaa, flagDest_of_ne hl hne, hadjust, outcome]

theorem execDaa_of_store {c : Bool} (hl : resolve m s = .ok l) (hne : l ≠ Loc.statusReg)
    (hadjust : daaAdjust s.acc s.flags = some (r, c)) (hw : storeLoc l r (fetched s) = .ok s2) :
    execDaa m s = .next { s2 with flags := { s.flags with c := c } } := by
  simp only [execDaa, flagDest_of_ne hl hne, hadjust, hw, outcome]

/-- R161 step by step, as relations between the digits. -/
theorem daaAdjust_eq {acc : Byte} {fl : Flags} {lo hi nlo ac1 nhi : Nat} {c : Bool} (hlo : lo = acc.toNat % 16)
    (hhi : hi = acc.toNat / 16) (hok : ¬ (9 < lo ∧ fl.ac = true))
    (hadj : 9 < lo ∨ fl.ac = true → nlo = (lo + 6) % 16) (hkeep : ¬ (9 < lo ∨ fl.ac = true) → nlo = lo)
    (hac1 : ac1 = if 9 < lo then 1 else 0)
    (hcarry : 9 < hi + ac1 ∨ fl.c = true → nhi = (hi + 6 + ac1) % 16 ∧ c = true)
    (hnone : ¬ (9 < hi + ac1 ∨ fl.c = true) → nhi = (hi + ac1) % 16 ∧ c = fl.c) :
    daaAdjust acc fl = some (BitVec.ofNat 8 (16 * nhi + nlo), c) := by
  have hnlo : (if 9 < lo ∨ fl.ac = true then (lo + 6) % 16 else lo) = nlo := by
    split
    · next h => exact (hadj h).symm
    · next h => exact (hkeep h).symm
  simp only [daaAdjust, ← hlo, ← hhi, if_neg hok, hnlo, ← hac1]
  by_cases h : 9 < hi + ac1 ∨ fl.c = true
  · obtain ⟨rfl, rfl⟩ := hcarry h
    rw [if_pos h]
  · obtain ⟨rfl, rfl⟩ := hnone h
    rw [if_neg h]

/-- Settles O17: the two refusals, and the store of the adjusted digits. -/
theorem decimalAdjust : Obligations.DecimalAdjust := by
  intro m s s2 l lo hi nlo ac1 nhi c
  refine ⟨encodeSlot_eq_wordWith _ m, execDaa_status, fun hl hne hlo hhi => ⟨fun hcorner => ?_, ?_⟩⟩
  · exact execDaa_corner hl hne (if_pos (hlo ▸ hcorner))
  · intro hok hadj hkeep hac1 hcarry hnone hw
    exact execDaa_of_store hl hne (daaAdjust_eq hlo hhi hok hadj hkeep hac1 hcarry hnone) hw

/-! ## SIZ and SDZ -/

/-- The write of PCL that would also skip is refused (R26, D3). -/
theorem stepSkip_pcl (hl : resolve m s = .ok l) (hr : readLoc l (fetched s) = .ok (v, s1)) (hpcl : l = Loc.pcl)
    (hz : g v = 0) : stepSkip g m s = .refused .pclSkip := by
  subst hpcl
  simp only [stepSkip, resolve_fetched, hl, hr, hz, and_self, if_true, outcome]

theorem stepSkip_goOn (hl : resolve m s = .ok l) (hr : readLoc l (fetched s) = .ok (v, s1)) (hz : g v ≠ 0)
    (hw : storeLoc l (g v) s1 = .ok s2) : stepSkip g m s = .next s2 := by
  simp only [stepSkip, resolve_fetched, hl, hr, hz, and_false, if_false, hw, decide_false, skipIf_false, outcome]

/-- A zero result elsewhere is stored, and the next instruction is skipped: two cycles (R230, R246). -/
theorem stepSkip_skip (hl : resolve m s = .ok l) (hr : readLoc l (fetched s) = .ok (v, s1)) (hne : l ≠ Loc.pcl)
    (hz : g v = 0) (hw : storeLoc l (g v) s1 = .ok s2) :
    stepSkip g m s = .next { s2 with pc := s.pc + 2, cycles := s.cycles + 2 } := by
  have hread : CoreFrame (some l) (fetched s) s1 := (readLoc_effect hr).core
  have hframe := hread.trans (storeLoc_core hw)
  have hpc : s2.pc = s.pc + 1 := hframe.pc (by simpa using hne)
  have hcycles : s2.cycles = s.cycles + 1 := hframe.cycles (by simpa using hne)
  have htwo : s.pc + 1 + 1 = s.pc + 2 := BitVec.add_assoc s.pc 1 1
  rw [hz] at hw
  simp only [stepSkip, resolve_fetched, hl, hr, hne, false_and, if_false, hw, hz, decide_true, skipIf_true, outcome, hpc,
    hcycles, htwo]

theorem add_one_eq_zero_iff (v : Byte) : v + 1 = 0 ↔ v = 0xFF := by
  constructor <;> intro h <;> bv_omega

theorem sub_one_eq_zero_iff (v : Byte) : v - 1 = 0 ↔ v = 0x01 := by
  constructor <;> intro h <;> bv_omega

/-- Settles O21: `stepSkip` run forward in its three outcomes, by whether the result is 0. -/
theorem memorySkips : Obligations.MemorySkips := by
  intro m v s s1 s2 l
  refine ⟨encodeSlot_eq_wordWith _ m, encodeSlot_eq_wordWith _ m, fun hl hr => ⟨?_, ?_, fun hw => ⟨?_, ?_⟩,
    fun hw => ⟨?_, ?_⟩⟩⟩
  · exact fun hpcl hv => stepSkip_pcl hl hr hpcl ((add_one_eq_zero_iff v).mpr hv)
  · exact fun hpcl hv => stepSkip_pcl hl hr hpcl ((sub_one_eq_zero_iff v).mpr hv)
  · exact fun hv => stepSkip_goOn hl hr (mt (add_one_eq_zero_iff v).mp hv) hw
  · exact fun hv hne => stepSkip_skip hl hr hne ((add_one_eq_zero_iff v).mpr hv) hw
  · exact fun hv => stepSkip_goOn hl hr (mt (sub_one_eq_zero_iff v).mp hv) hw
  · exact fun hv hne => stepSkip_skip hl hr hne ((sub_one_eq_zero_iff v).mpr hv) hw

/-! ## The returns -/

theorem popPc_cons {a : PAddr} {rest : List PAddr} (h : s.stk = a :: rest) :
    popPc s = .ok { s with pc := a, stk := rest } := by
  simp only [popPc, h]

theorem popPc_nil (h : s.stk = []) : popPc s = .error (.refused .emptyStack) := by
  simp only [popPc, h]

/-- Settles O23: each return is the pop of R31 and what its own rule adds. -/
theorem returns : Obligations.Returns := by
  intro x s
  refine ⟨rfl, encodeSlot_eq_wordWith _ x, rfl, fun a rest hstk => ?_, fun hstk => ?_⟩
  · have hpop := popPc_cons (s := (fetched s).dummyCycle) hstk
    simp only [exec, execRet, execRetX, execReti, returnFromInterrupt, hpop, outcome]
    exact ⟨rfl, rfl, rfl⟩
  · have hpop := popPc_nil (s := (fetched s).dummyCycle) hstk
    simp only [exec, execRet, execRetX, execReti, returnFromInterrupt, hpop, outcome, and_self]

/-! ## The step of one instruction -/

/-- A running core with an empty script and no interrupt to acknowledge runs an instruction (R310, R311). -/
theorem nextStep_eq_runInstr (enc : Encoding) (henv : s.env = []) (hrun : s.halted = false) (hpend : s.pending = none) :
    nextStep enc s = runInstr enc s := by
  simp only [nextStep, henv, coreStep, hrun, hpend, Bool.false_eq_true, if_false]

theorem runInstr_of_decode {enc : Encoding} {w : PWord} {i : Instr} (hw : fetchWord s = some w) (hi : enc w = .ok i) :
    runInstr enc s = clockedOutcome s.cycles (exec i (settled s)) := by
  simp only [runInstr, hw, hi]

theorem clocked_free {n : Nat} (h : s.opt.timing = .free) : clocked n s = s := by
  simp only [clocked, h]

theorem clocked_cycleExact {n : Nat} (h : s.opt.timing = .cycleExact) :
    clocked n s = { s with env := List.replicate (4 * (s.cycles - n)) .sysClock ++ s.env } := by
  simp only [clocked, h]

/-- Settles O5: the step is `runInstr`, whose `clocked` is read in the options that no instruction changes. -/
theorem stepRunsDecodedInstruction : Obligations.StepRunsDecodedInstruction := by
  intro s w i henv hrun hpend hw hi
  have hall (enc : Encoding) (j : Instr) (hj : enc w = .ok j) :
      nextStep enc s = clockedOutcome s.cycles (exec j (settled s)) := by
    rw [nextStep_eq_runInstr enc henv hrun hpend, runInstr_of_decode hw hj]
  have hstep : step s = clockedOutcome s.cycles (exec i (settled s)) := hall decode i hi
  have hopt {t : State} (ht : exec i (settled s) = .next t) : t.opt = s.opt := by
    obtain ⟨-, -, -, -, -, -, -, -, -, hopt⟩ := (surroundings_eq_iff _ _).mp (exec_keeps_surroundings ht).2
    exact hopt
  refine ⟨⟨false, false, rfl⟩, fun t ht htiming => ?_, fun t ht htiming => ?_, fun f hf => ?_, fun r hr => ?_, hall⟩
  · rw [hstep, ht, clockedOutcome, clocked_free (by rw [hopt ht, htiming])]
  · rw [hstep, ht, clockedOutcome, clocked_cycleExact (by rw [hopt ht, htiming])]
  · rw [hstep, hf, clockedOutcome]
  · rw [hstep, hr, clockedOutcome]

end Sys2Proof.Machine
end

section
/-! PROOF. The write table, line by line, and the LCD memory seen through MP1. -/

namespace Sys2Proof.Machine

variable {a v : Byte} {s : State}

/-! ## Writes and reads by address -/

/-- An address other than the two pointers' is its own location (R84). -/
theorem resolve_direct (h0 : a ≠ 0x00) (h2 : a ≠ 0x02) : resolve a s = .ok (.data a) := by
  simp only [resolve, h0, h2, if_false]

/-- [02H] in bank 1 is the LCD location that MP1 holds (R87). -/
theorem resolve_lcd (hbp : s.bp = true) (hlo : 0x40 ≤ s.mp1.toNat) (hhi : s.mp1.toNat ≤ 0x60) :
    resolve 0x02 s = .ok (.lcd s.mp1) := by
  have hrange : 0x40 ≤ s.mp1.toNat ∧ s.mp1.toNat ≤ 0x60 := ⟨hlo, hhi⟩
  have h02 : (0x02 : Byte) ≠ 0x00 := by decide
  simp only [resolve, h02, if_false, if_true, hbp, hrange, and_self]

theorem memWrite_of_resolve {l : Loc} (h : resolve a s = .ok l) : memWrite a v s = storeLoc l v s := by
  simp only [memWrite, h]

/-- The write of any location but PCL costs no dummy cycle (R25). -/
theorem storeLoc_of_ne_pcl {l : Loc} (h : l ≠ Loc.pcl) : storeLoc l v s = writeLoc l v s := by
  simp only [storeLoc, h, if_false]
  cases writeLoc l v s <;> rfl

theorem memWrite_direct (h0 : a ≠ 0x00) (h2 : a ≠ 0x02) (hpcl : a ≠ 0x06) :
    memWrite a v s = writeLoc (.data a) v s := by
  rw [memWrite_of_resolve (resolve_direct h0 h2), storeLoc_of_ne_pcl (by simpa [Loc.pcl] using hpcl)]

theorem memWrite_absent (hlo : 0x20 ≤ a.toNat) (hhi : a.toNat ≤ 0x5F) :
    memWrite a v s = .error (.refused (.absentData a)) := by
  rw [memWrite_direct (by rintro rfl; simp at hlo) (by rintro rfl; simp at hlo) (by rintro rfl; simp at hlo)]
  simp only [writeLoc, if_neg (show ¬ a.toNat < 0x20 by omega), if_pos (show a.toNat < 0x60 by omega)]

theorem memWrite_ram (ha : 0x60 ≤ a.toNat) :
    memWrite a v s = .ok { s with ram := Memory.write s.ram a.toNat v } := by
  rw [memWrite_direct (by rintro rfl; simp at ha) (by rintro rfl; simp at ha) (by rintro rfl; simp at ha)]
  simp only [writeLoc, if_neg (show ¬ a.toNat < 0x20 by omega), if_neg (show ¬ a.toNat < 0x60 by omega)]

theorem memWrite_lcd (hbp : s.bp = true) (hlo : 0x40 ≤ s.mp1.toNat) (hhi : s.mp1.toNat ≤ 0x60) :
    memWrite 0x02 v s = .ok { s with lcd := Memory.write s.lcd s.mp1.toNat (BitVec.ofNat 4 v.toNat) } := by
  rw [memWrite_of_resolve (resolve_lcd hbp hlo hhi)]
  rfl

/-- The read-only and unused locations ignore a write (R91, D7). -/
theorem memWrite_ignored
    (ha : a.toNat ∈ [0x08, 0x0C, 0x0F, 0x13, 0x14, 0x15, 0x17, 0x18, 0x19, 0x1A, 0x1B, 0x1C, 0x1D, 0x1F]) :
    memWrite a v s = .ok s := by
  rw [eq_ofNat_of_toNat (a := a) rfl]
  generalize a.toNat = n at ha
  fin_cases ha <;> rfl

/-! ## The timers -/

/-- A byte with TON, TN0 and TN1 that the unused mode does not refuse (R336). -/
theorem badControl_eq_false (h : v.getLsbD 4 = false ∨ v.getLsbD 6 = true ∨ v.getLsbD 7 = true) :
    badControl v = false := by
  obtain h | h | h := h <;> simp only [badControl, h, Bool.false_and, Bool.not_true, Bool.and_false]

theorem memWrite_tmr0c (h : badControl v = false) : memWrite 0x0E v s = .ok { s with t0 := s.t0.setControl v } := by
  rw [memWrite_direct (by decide) (by decide) (by decide)]
  exact if_neg (by simp [h])

theorem memWrite_tmr1c (h : badControl v = false) : memWrite 0x11 v s = .ok { s with t1 := s.t1.setControl v } := by
  rw [memWrite_direct (by decide) (by decide) (by decide)]
  exact if_neg (by simp [h])

theorem memWrite_badControl (h : badControl v = true) :
    memWrite 0x0E v s = .error (.refused .timerModeUnused) ∧
      memWrite 0x11 v s = .error (.refused .timerModeUnused) := by
  rw [memWrite_direct (by decide) (by decide) (by decide), memWrite_direct (by decide) (by decide) (by decide)]
  exact ⟨if_pos h, if_pos h⟩

theorem Timer.load_off {t : Timer} (h : t.ton = false) : t.load v = { t with pre := v, cnt := v } := by
  simp only [Timer.load, h, Bool.false_eq_true, if_false]

theorem Timer.load_on {t : Timer} (h : t.ton = true) : t.load v = { t with pre := v } := by
  simp only [Timer.load, h, if_true]

theorem memWrite_tmr0 : memWrite 0x0D v s = .ok { s with t0 := s.t0.load v } := rfl

theorem memWrite_tmr1 : memWrite 0x10 v s = .ok { s with t1 := s.t1.load v } := rfl

theorem memWrite_pcl : memWrite 0x06 v s = .ok { s with
    pc := BitVec.ofNat 12 (256 * (s.pc.toNat / 256) + v.toNat), cycles := s.cycles + 1 } := by
  rw [← pclWrite_eq]
  rfl

/-- Settles O31: each line is the write at its address; memories by the laws of `Memory.write`. -/
theorem writeTable : Obligations.WriteTable := by
  intro v s
  refine ⟨rfl, rfl, rfl, rfl, memWrite_pcl, rfl, ⟨_, rfl, rfl⟩, rfl, rfl, rfl, fun h => ?_, fun h => ?_, fun h => ?_,
    fun h => ?_, fun h4 h6 h7 => ?_, fun h => ⟨⟨_, memWrite_tmr0c (badControl_eq_false h), rfl⟩,
      ⟨_, memWrite_tmr1c (badControl_eq_false h), rfl⟩⟩, rfl, rfl, fun a => memWrite_ignored,
    fun a => memWrite_absent, fun a ha => ?_, fun hbp hlo hhi => ?_⟩
  · rw [memWrite_tmr0, Timer.load_off h]
  · rw [memWrite_tmr0, Timer.load_on h]
  · rw [memWrite_tmr1, Timer.load_off h]
  · rw [memWrite_tmr1, Timer.load_on h]
  · exact memWrite_badControl (by simp only [badControl, h4, h6, h7, Bool.not_false, Bool.and_self])
  · exact ⟨_, memWrite_ram ha, rfl, Memory.read_write_same _ _ _, fun b hb => Memory.read_write_other _ _ _ _ hb⟩
  · exact ⟨_, memWrite_lcd hbp hlo hhi, rfl, Memory.read_write_same _ _ _,
      fun b hb => Memory.read_write_other _ _ _ _ hb⟩

/-! ## The LCD memory -/

/-- The read of a written LCD location: its nibble under four free bits (R90, log 10). -/
theorem memRead_lcd {n : BitVec 4} (hbp : s.bp = true) (hlo : 0x40 ≤ s.mp1.toNat) (hhi : s.mp1.toNat ≤ 0x60)
    (hn : Memory.read s.lcd s.mp1.toNat = some n) :
    memRead 0x02 s = .ok (Config.drawNibble s.draws ++ n, { s with draws := s.draws + 1 }) := by
  simp only [memRead, resolve_lcd hbp hlo hhi, readLoc, hn]

theorem memStore_of_write {m : Byte} {t : State} (h : memWrite m v (fetched s) = .ok t) : memStore v m s = .next t := by
  simp only [memStore, h, outcome]

theorem accFromMem_of_read {f : AluOp} {m : Byte} {s1 : State} (h : memRead m (fetched s) = .ok (v, s1)) :
    accFromMem f m s = .next { s1 with acc := (f s1.acc s1.flags v).1, flags := (f s1.acc s1.flags v).2 } := by
  simp only [accFromMem, h, outcome]

/-- The dot of a written location, where the option drives its common and its segment (R55, R367). -/
theorem lcdDot_of_read {n : BitVec 4} {b c : Nat} (hc : c < s.opt.lcdCom) (hb : b ≤ 32)
    (hseg : ¬ (s.opt.lcdCom = 4 ∧ b = 32)) (hn : Memory.read s.lcd (0x40 + b) = some n) :
    s.lcdDot b c = some (n.getLsbD c) := by
  rw [State.lcdDot, if_pos ⟨hc, hb, hseg⟩, hn, Option.map_some]

theorem append_low_nibble (d n : BitVec 4) : (d ++ n).toNat % 16 = n.toNat := by
  have hn := n.isLt
  rw [BitVec.toNat_append, ← Nat.shiftLeft_add_eq_or_of_lt hn, Nat.shiftLeft_eq]
  omega

/-- Settles O32: the write leaves the nibble at MP1's location, where the read and the dots find it. -/
theorem lcdNibbleComesBack : Obligations.LcdNibbleComesBack := by
  intro s hbp hlo hhi
  have hwrite := memStore_of_write (memWrite_lcd (v := s.acc) (s := fetched s) hbp hlo hhi)
  have hnibble := Memory.read_write_same s.lcd s.mp1.toNat (BitVec.ofNat 4 s.acc.toNat)
  refine ⟨_, _, hwrite, accFromMem_of_read (memRead_lcd hbp hlo hhi hnibble), ?_, rfl, fun c hcom hc hseg => ?_⟩
  · exact (append_low_nibble _ _).trans (BitVec.toNat_ofNat _ _)
  · have haddr : 0x40 + (s.mp1.toNat - 0x40) = s.mp1.toNat := by omega
    have hseg' : ¬ (s.opt.lcdCom = 4 ∧ s.mp1.toNat - 0x40 = 32) := fun ⟨h4, h32⟩ =>
      hseg ⟨h4, BitVec.eq_of_toNat_eq (show s.mp1.toNat = 0x60 by omega)⟩
    have hbit : (BitVec.ofNat 4 s.acc.toNat).getLsbD c = s.acc.getLsbD c := by
      simp [hc]
    rw [← hbit]
    exact lcdDot_of_read hcom (by omega) hseg' (by rw [haddr]; exact hnibble)

end Sys2Proof.Machine
end

section
/-! PROOF. What a step leaves of the memories and the options: the location outside an instruction's destination, the
program memory in every step; and the word the host places. -/

namespace Sys2Proof.Machine

variable {s t u : State} {i : Instr} {l : Option Loc}

/-! ## The memories -/

/-- Every RAM and LCD location but `l` reads in `t` as in `s`, and the program memory is the same. -/
structure MemFrame (l : Option Loc) (s t : State) : Prop where
  ram : ∀ a : Nat, (∀ b : Byte, l = some (.data b) → b.toNat ≠ a) → Memory.read t.ram a = Memory.read s.ram a
  lcd : ∀ a : Nat, (∀ b : Byte, l = some (.lcd b) → b.toNat ≠ a) → Memory.read t.lcd a = Memory.read s.lcd a
  pm : t.pm = s.pm

theorem MemFrame.of_eq (hram : t.ram = s.ram) (hlcd : t.lcd = s.lcd) (hpm : t.pm = s.pm) : MemFrame l s t :=
  ⟨fun _ _ => by rw [hram], fun _ _ => by rw [hlcd], hpm⟩

theorem MemFrame.trans (h : MemFrame l s t) (k : MemFrame l t u) : MemFrame l s u where
  ram a ha := (k.ram a ha).trans (h.ram a ha)
  lcd a ha := (k.lcd a ha).trans (h.lcd a ha)
  pm := k.pm.trans h.pm

theorem ReadEffect.mem (h : ReadEffect s t) : MemFrame l s t := by
  obtain ⟨b0, b1, d, rfl⟩ := h
  exact .of_eq rfl rfl rfl

theorem mem_of_withCore (h : t = s.withCore t) : MemFrame l s t := by
  rw [h]
  exact .of_eq rfl rfl rfl

theorem WatchdogEffect.mem (h : WatchdogEffect s t) : MemFrame l s t := by
  rw [h]
  exact .of_eq rfl rfl rfl

/-- The special-function registers are none of the memories. -/
theorem writeSfr_mem {a : Nat} {v : Byte} (h : writeSfr a v s = .ok t) : MemFrame l s t := by
  rcases writeSfr_cases h with rfl | ⟨-, rfl⟩ | ⟨-, rfl⟩ | ⟨-, rfl⟩ | ⟨-, rfl⟩ | ⟨-, rfl⟩ | ⟨-, rfl⟩ | ⟨-, rfl⟩ |
    ⟨-, rfl⟩ | ⟨-, rfl⟩ | ⟨-, rfl⟩ | ⟨-, -, rfl⟩ | ⟨-, rfl⟩ | ⟨-, -, rfl⟩ | ⟨-, rfl⟩ | ⟨-, rfl⟩ | ⟨-, rfl⟩
  all_goals exact .of_eq rfl rfl rfl

/-- A write changes at most its own location of the memories (R91). -/
theorem writeLoc_mem {x : Loc} {v : Byte} (h : writeLoc x v s = .ok t) : MemFrame (some x) s t := by
  obtain ⟨-, rfl⟩ | ⟨a, rfl, rfl⟩ | ⟨a, rfl, -, hw⟩ | ⟨a, rfl, -, rfl⟩ := writeLoc_cases h
  · exact .of_eq rfl rfl rfl
  · exact ⟨fun _ _ => rfl, fun b hb => Memory.read_write_other _ _ _ _ (hb a rfl).symm, rfl⟩
  · exact writeSfr_mem hw
  · exact ⟨fun b hb => Memory.read_write_other _ _ _ _ (hb a rfl).symm, fun _ _ => rfl, rfl⟩

theorem InstrEffect.mem (h : InstrEffect i s t) : MemFrame (storeTarget i s) s t := by
  obtain ⟨s1, s2, hread, hstore, hcore⟩ := h
  have hfetch : MemFrame (storeTarget i s) s (fetched s) := .of_eq rfl rfl rfl
  have hwrite : MemFrame (storeTarget i s) s1 s2 := by
    obtain rfl | ⟨x, v, hx, hw⟩ := hstore
    · exact .of_eq rfl rfl rfl
    · rw [hx]
      exact writeLoc_mem hw
  exact ((hfetch.trans hread.mem).trans hwrite).trans (mem_of_withCore hcore)

theorem exec_mem (h : exec i s = .next t) : MemFrame (storeTarget i s) s t := by
  cases hi : i.clearsWatchdog with
  | false => exact (exec_effect hi h).mem
  | true => exact (clearsWatchdog_effect hi h).mem

/-- Settles O35: an instruction's only write is that of its destination. -/
theorem memoryFrame : Obligations.MemoryFrame := by
  intro i s t h
  have hmem := exec_mem h
  exact ⟨hmem.ram, hmem.lcd, fun a => by rw [hmem.pm]⟩

/-! ## Program memory and options -/

/-- `t` has the program memory and the options of `s`. -/
def SameProgram (s t : State) : Prop := t.pm = s.pm ∧ t.opt = s.opt

theorem SameProgram.trans (h : SameProgram s t) (k : SameProgram t u) : SameProgram s u :=
  ⟨k.1.trans h.1, k.2.trans h.2⟩

theorem exec_opt (h : exec i s = .next t) : t.opt = s.opt := by
  obtain ⟨-, -, -, -, -, -, -, -, -, hopt⟩ := (surroundings_eq_iff s t).mp (exec_keeps_surroundings h).2
  exact hopt

theorem exec_sameProgram (h : exec i s = .next t) : SameProgram s t := ⟨(exec_mem h).pm, exec_opt h⟩

theorem UnitEffect.sameProgram (h : UnitEffect s u) : SameProgram s u := by
  rw [h]
  exact ⟨rfl, rfl⟩

theorem clocked_sameProgram (n : Nat) (s : State) : SameProgram s (clocked n s) := by
  rw [clocked_cases]
  exact ⟨rfl, rfl⟩

theorem wakeByPads_sameProgram (s u : State) : SameProgram u (wakeByPads s u) := by
  rw [wakeByPads_eq]
  exact ⟨rfl, rfl⟩

/-- No reset programs the EPROM (R80, R401). -/
theorem wdtTimeOut_sameProgram (s : State) : SameProgram s (wdtTimeOut s) := by
  unfold wdtTimeOut
  split <;> exact ⟨rfl, rfl⟩

theorem resReset_sameProgram (s : State) : SameProgram s (resReset s) := by
  rw [resReset_eq]
  exact ⟨rfl, rfl⟩

theorem lowVoltageReset_sameProgram (x : Unknowns) (o p : Bool) (s : State) :
    SameProgram s (lowVoltageReset x o p s) := by
  unfold lowVoltageReset
  split <;> exact ⟨rfl, rfl⟩

theorem tickWatchdog_sameProgram (b : Bool) (s : State) : SameProgram s (tickWatchdog b s) := by
  obtain ⟨-, h⟩ | ⟨-, -, h⟩ | ⟨-, -, h⟩ := tickWatchdog_cases b s
  · rw [h]
    exact ⟨rfl, rfl⟩
  · rw [h]
    exact ⟨rfl, rfl⟩
  · rw [h]
    exact wdtTimeOut_sameProgram { s with wdtCnt := 0, halted := b }

theorem StepEffect.sameProgram {e : Option Event} (h : StepEffect e s t) : SameProgram s t := by
  cases h with
  | idle => exact ⟨rfl, rfl⟩
  | enter _ _ _ _ => exact ⟨rfl, rfl⟩
  | instr _ _ u _ _ _ _ hu =>
    have hexec : SameProgram s u := exec_sameProgram (s := settled s) hu
    exact hexec.trans (clocked_sameProgram _ u)
  | clock u hu => exact hu.unit.sameProgram.trans (wakeByPads_sameProgram s u)
  | watchdog u _ hu =>
    exact (hu.unit.sameProgram.trans (tickWatchdog_sameProgram _ u)).trans (wakeByPads_sameProgram s _)
  | pads a b c d f _ =>
    have hpads : SameProgram s (drivePads a b c d f s) := (drivePads_effect a b c d f s).sameProgram
    exact hpads.trans (wakeByPads_sameProgram s _)
  | supply _ _ => exact ⟨rfl, rfl⟩
  | res _ => exact resReset_sameProgram s
  | powerOn _ _ => exact ⟨rfl, rfl⟩
  | lowVoltage x o p _ => exact lowVoltageReset_sameProgram x o p s

/-- Settles O41: each case of a step keeps both. -/
theorem programMemoryAndOptionsAreFixed : Obligations.ProgramMemoryAndOptionsAreFixed :=
  fun _ _ h => (step_effect h).sameProgram

/-! ## The word the host places -/

/-- The state in which a placed word is fetched: it stands at the program counter, and its `run` event is taken off the
script. -/
def State.fetching (s : State) (w : PWord) : State :=
  { s with pm := Memory.write s.pm s.pc.toNat w, halted := false, env := [] }

theorem fetchWord_fetching (s : State) (w : PWord) : fetchWord (s.fetching w) = some w :=
  Memory.read_write_same _ _ _

theorem step_withFetchWord (s : State) (w : PWord) :
    step (s.withFetchWord 15 w.toNat) = runInstr decode (s.fetching w) := by
  have hword : BitVec.ofNat 15 (w.toNat % 2 ^ 15) = w := by
    rw [Nat.mod_eq_of_lt w.isLt, BitVec.ofNat_toNat, BitVec.setWidth_eq]
  rw [State.withFetchWord, hword]
  rfl

theorem runInstr_of_decode_error {enc : Encoding} {w : PWord} {e : DecodeError} (hw : fetchWord s = some w)
    (he : enc w = .error e) : runInstr enc s = .refused (.unassignedWord w) := by
  simp only [runInstr, hw, he]

theorem runInstr_unprogrammed {enc : Encoding} (hw : fetchWord s = none) :
    runInstr enc s = .fault (.unprogrammedWord s.pc) := by
  simp only [runInstr, hw]

/-- Settles O6: the step with a placed word is `runInstr` where that word is fetched. -/
theorem placedWordIsRunOrRefused : Obligations.PlacedWordIsRunOrRefused := by
  intro s w
  refine ⟨fun i t hi htiming ht => ?_, fun e he => ?_, fun henv hrun hpend hw => ?_⟩
  · have hfree : t.opt.timing = .free := by
      rw [exec_opt ht]
      exact htiming
    have hexec : exec i (settled (s.fetching w)) = .next t := ht
    rw [step_withFetchWord, runInstr_of_decode (fetchWord_fetching s w) hi, hexec, clockedOutcome, clocked_free hfree]
  · rw [step_withFetchWord, runInstr_of_decode_error (fetchWord_fetching s w) he]
  · rw [step, nextStep_eq_runInstr decode henv hrun hpend, runInstr_unprogrammed hw]

end Sys2Proof.Machine
end

section
/-! PROOF. The access path: operand resolution, the read table, and the forms that reach memory through it. -/

namespace Sys2Proof.Machine

variable {a m v : Byte} {s s1 : State} {l : Loc}

/-! ## Operand resolution -/

theorem pointee_null {p : Byte} (h : p = 0x00 ∨ p = 0x02) : pointee p = .null := if_pos h

theorem pointee_data {p : Byte} (h0 : p ≠ 0x00) (h2 : p ≠ 0x02) : pointee p = .data p :=
  if_neg (not_or.mpr ⟨h0, h2⟩)

/-- [00H] is the location MP0 names (R84). -/
theorem resolve_iar0 (s : State) : resolve 0x00 s = .ok (pointee s.mp0) := rfl

/-- [02H] in bank 0 is the location MP1 names (R84). -/
theorem resolve_iar1 (hbp : s.bp = false) : resolve 0x02 s = .ok (pointee s.mp1) := by
  have h02 : (0x02 : Byte) ≠ 0x00 := by decide
  simp only [resolve, h02, if_false, if_true, hbp, Bool.false_eq_true]

/-- [02H] in bank 1 outside the LCD memory (R87, D9). -/
theorem resolve_bank1Hole (hbp : s.bp = true) (h : s.mp1.toNat < 0x40 ∨ 0x60 < s.mp1.toNat) :
    resolve 0x02 s = .error (.refused (.bank1Hole s.mp1)) := by
  have h02 : (0x02 : Byte) ≠ 0x00 := by decide
  have hrange : ¬ (0x40 ≤ s.mp1.toNat ∧ s.mp1.toNat ≤ 0x60) := by omega
  simp only [resolve, h02, if_false, if_true, hbp, hrange]

theorem memRead_of_resolve (h : resolve m s = .ok l) : memRead m s = readLoc l s := by
  simp only [memRead, h]

/-- Settles O28: a lemma for each line of R84. -/
theorem resolveFollowsItsTable : Obligations.ResolveFollowsItsTable := by
  intro m v s l
  refine ⟨resolve_direct, fun h => ?_, fun h0 h2 => ?_, fun hbp h => ?_, fun hbp h0 h2 => ?_, resolve_lcd,
    resolve_bank1Hole, fun h => ⟨memRead_of_resolve h, memWrite_of_resolve h⟩, rfl, rfl⟩
  · rw [resolve_iar0, pointee_null h]
  · rw [resolve_iar0, pointee_data h0 h2]
  · rw [resolve_iar1 hbp, pointee_null h]
  · rw [resolve_iar1 hbp, pointee_data h0 h2]

/-! ## The forms with a memory operand -/

/-- A meaning sees its operand `[m]` only through the location it resolves to. -/
def ThroughResolve (meaning : Byte → State → Host.Outcome State Fault Refusal) : Prop :=
  ∀ ⦃m m' : Byte⦄ ⦃s : State⦄, resolve m s = resolve m' s → meaning m s = meaning m' s

namespace ThroughResolve

theorem accFromMem (f : AluOp) : ThroughResolve (accFromMem f) := by
  intro m m' s h
  simp only [Machine.accFromMem, memRead, resolve_fetched, h]

theorem memFromMem (f : AluOp) : ThroughResolve (memFromMem f) := by
  intro m m' s h
  simp only [Machine.memFromMem, flagDest, resolve_fetched, h]

theorem execDaa : ThroughResolve execDaa := by
  intro m m' s h
  simp only [Machine.execDaa, flagDest, resolve_fetched, h]

theorem memUpdate (g : Byte → Byte) : ThroughResolve (memUpdate g) := by
  intro m m' s h
  simp only [Machine.memUpdate, resolve_fetched, h]

theorem memStore (v : State → Byte) : ThroughResolve fun m s => memStore (v s) m s := by
  intro m m' s h
  simp only [Machine.memStore, memWrite, resolve_fetched, h]

theorem testSkip (p : Byte → Bool) : ThroughResolve (testSkip p) := by
  intro m m' s h
  simp only [Machine.testSkip, memRead, resolve_fetched, h]

theorem accSkip (g : Byte → Byte) : ThroughResolve (accSkip g) := by
  intro m m' s h
  simp only [Machine.accSkip, memRead, resolve_fetched, h]

theorem stepSkip (g : Byte → Byte) : ThroughResolve (stepSkip g) := by
  intro m m' s h
  simp only [Machine.stepSkip, resolve_fetched, h]

theorem tableRead (p : State → PAddr) : ThroughResolve fun m s => tableRead (p s) m s := by
  intro m m' s h
  simp only [Machine.tableRead, resolve_fetched, h]

end ThroughResolve

/-- Each form by the operand form that is its meaning, in the rows of `Instr.memoryForms`. -/
theorem memoryForms_throughResolve (i : BitVec 3) :
    ∀ c ∈ Instr.memoryForms i, ThroughResolve fun m s => exec (c m) s := by
  simp only [Instr.memoryForms, List.forall_mem_cons]
  exact ⟨.accFromMem _, .memFromMem _, .accFromMem _, .memFromMem _, .accFromMem _, .memFromMem _, .accFromMem _,
      .memFromMem _, .execDaa,
    .accFromMem _, .accFromMem _, .accFromMem _, .memFromMem _, .memFromMem _, .memFromMem _, .memFromMem _,
      .accFromMem _, .accFromMem _, .memFromMem _, .accFromMem _, .memFromMem _,
    .accFromMem _, .memUpdate _, .accFromMem _, .memFromMem _, .accFromMem _, .memUpdate _, .accFromMem _,
      .memFromMem _, .accFromMem _, .memStore _,
    .testSkip _, .accSkip _, .stepSkip _, .stepSkip _, .accSkip _, .accSkip _, .tableRead _, .tableRead _,
      .memStore _, .memStore _, .memUpdate _, .accFromMem _,
    .memUpdate _, .memUpdate _, .testSkip _, .testSkip _, List.forall_mem_nil _⟩

/-- Settles O29: [00H] and [02H] resolve to what the pointer's value resolves to as a direct operand. -/
theorem indirectFormsActLikeDirectOnes : Obligations.IndirectFormsActLikeDirectOnes := by
  intro i c p s hc h0 h2
  refine ⟨fun hp => ?_, fun hp hbp => ?_⟩
  · refine memoryForms_throughResolve i c hc ?_
    rw [resolve_iar0, hp, pointee_data h0 h2, resolve_direct h0 h2]
  · refine memoryForms_throughResolve i c hc ?_
    rw [resolve_iar1 hbp, hp, pointee_data h0 h2, resolve_direct h0 h2]

/-! ## The table reads -/

theorem writeSfr_cycles {n : Nat} {t : State} (h : writeSfr n v s = .ok t) : t.cycles = s.cycles := by
  rcases writeSfr_cases h with rfl | ⟨-, rfl⟩ | ⟨-, rfl⟩ | ⟨-, rfl⟩ | ⟨-, rfl⟩ | ⟨-, rfl⟩ | ⟨-, rfl⟩ | ⟨-, rfl⟩ |
    ⟨-, rfl⟩ | ⟨-, rfl⟩ | ⟨-, rfl⟩ | ⟨-, -, rfl⟩ | ⟨-, rfl⟩ | ⟨-, -, rfl⟩ | ⟨-, rfl⟩ | ⟨-, rfl⟩ | ⟨-, rfl⟩
  all_goals rfl

/-- A write spends no cycle of its own, not even that of PCL: the dummy cycle is the instruction's (R25). -/
theorem writeLoc_cycles {t : State} (h : writeLoc l v s = .ok t) : t.cycles = s.cycles := by
  obtain ⟨-, rfl⟩ | ⟨a, -, rfl⟩ | ⟨a, -, -, hw⟩ | ⟨a, -, -, rfl⟩ := writeLoc_cases h
  · rfl
  · rfl
  · exact writeSfr_cycles hw
  · rfl

theorem lowByte_eq {n : Nat} (w : BitVec n) : w.extractLsb' 0 8 = BitVec.ofNat 8 (w.toNat % 256) := by
  apply BitVec.eq_of_toNat_eq
  simp

theorem highBits_eq (w : PWord) : w.extractLsb' 8 7 = BitVec.ofNat 7 (w.toNat / 256) := by
  apply BitVec.eq_of_toNat_eq
  simp [Nat.shiftRight_eq_div_pow]

/-- An address of TABRDC: the page and the low byte (R261). -/
theorem pageAddress_toNat (p : PAddr) (b : Byte) :
    (p.extractLsb' 8 4 ++ b).toNat = 256 * (p.toNat / 256) + b.toNat := by
  have hp := p.isLt
  have hb := b.isLt
  rw [pclWrite_eq, BitVec.toNat_ofNat]
  omega

/-- An address of TABRDL: the last page (R262). -/
theorem lastPageAddress_toNat (b : Byte) : (0xF#4 ++ b).toNat = 0xF00 + b.toNat := by
  have hb := b.isLt
  rw [BitVec.toNat_append, ← Nat.shiftLeft_add_eq_or_of_lt hb]
  rfl

/-- A table read of a programmed word, run forward (R100, R260). -/
theorem tableRead_of_write {p : PAddr} {w : PWord} (hl : resolve m s = .ok l)
    (hw : writeLoc l (BitVec.ofNat 8 (w.toNat % 256)) (fetched s) = .ok s1) (hp : Memory.read s.pm p.toNat = some w) :
    ∃ t, tableRead p m s = .next t ∧ 2 ≤ t.cycles - s.cycles ∧
      (l ≠ Loc.pcl → t.cycles = s.cycles + 2 ∧ t.draws = s1.draws) ∧
      t = { s1 with tblh := BitVec.ofNat 7 (w.toNat / 256), cycles := t.cycles, draws := t.draws } := by
  have hword : tableWord p s = w := by rw [tableWord, hp, Option.getD_some]
  have hcycles : s1.cycles = s.cycles + 1 := writeLoc_cycles hw
  simp only [tableRead, resolve_fetched, hl, hword, lowByte_eq, hw, highBits_eq, outcome]
  split
  · next hpcl => exact ⟨_, rfl, by dsimp only; omega, fun hne => absurd hpcl hne, rfl⟩
  · exact ⟨_, rfl, by dsimp only; omega, fun _ => ⟨by dsimp only; omega, rfl⟩, rfl⟩

/-- Settles O24: `tableRead` run forward at the two addresses. -/
theorem tableReads : Obligations.TableReads := by
  intro m w s s1 l
  refine ⟨encodeSlot_eq_wordWith _ m, encodeSlot_eq_wordWith _ m, fun hl hw => ⟨fun hp => ?_, fun hp => ?_⟩⟩
  · exact tableRead_of_write hl hw (by rw [pageAddress_toNat]; exact hp)
  · exact tableRead_of_write hl hw (by rw [lastPageAddress_toNat]; exact hp)

/-! ## The read table -/

theorem memRead_direct (h0 : a ≠ 0x00) (h2 : a ≠ 0x02) : memRead a s = readLoc (.data a) s :=
  memRead_of_resolve (resolve_direct h0 h2)

theorem memRead_absent (hlo : 0x20 ≤ a.toNat) (hhi : a.toNat ≤ 0x5F) :
    memRead a s = .error (.refused (.absentData a)) := by
  rw [memRead_direct (by rintro rfl; simp at hlo) (by rintro rfl; simp at hlo)]
  simp only [readLoc, if_neg (show ¬ a.toNat < 0x20 by omega), if_pos (show a.toNat < 0x60 by omega)]

theorem memRead_ram (ha : 0x60 ≤ a.toNat) (hv : Memory.read s.ram a.toNat = some v) : memRead a s = .ok (v, s) := by
  rw [memRead_direct (by rintro rfl; simp at ha) (by rintro rfl; simp at ha)]
  simp only [readLoc, if_neg (show ¬ a.toNat < 0x20 by omega), if_neg (show ¬ a.toNat < 0x60 by omega), hv]

/-- The unused locations read 00H (R90). -/
theorem memRead_unused (ha : a.toNat ∈ [0x0C, 0x0F, 0x13, 0x15, 0x17, 0x18, 0x19, 0x1A, 0x1B, 0x1C, 0x1D, 0x1F]) :
    memRead a s = .ok (0x00, s) := by
  rw [eq_ofNat_of_toNat (a := a) rfl]
  generalize a.toNat = n at ha
  fin_cases ha <;> rfl

/-- The number a byte of given bits stands for. -/
theorem byteOf_eq {b7 b6 b5 b4 b3 b2 b1 b0 : Bool} {n : Nat}
    (hn : n = 128 * b7.toNat + 64 * b6.toNat + 32 * b5.toNat + 16 * b4.toNat + 8 * b3.toNat + 4 * b2.toNat +
      2 * b1.toNat + b0.toNat) : byteOf b7 b6 b5 b4 b3 b2 b1 b0 = BitVec.ofNat 8 n := by
  rw [hn, byteOf]

theorem toNat_eq_bits (r : BitVec 3) :
    r.toNat = 4 * (r.getLsbD 2).toNat + 2 * (r.getLsbD 1).toNat + (r.getLsbD 0).toNat := by
  revert r
  decide

theorem rtcc_eq (s : State) : s.rtcc = BitVec.ofNat 8
    (s.rt.toNat + 8 * s.lvdc.toNat + 16 * s.qosc.toNat + 32 * s.lvdo.toNat) :=
  byteOf_eq (by rw [toNat_eq_bits, Bool.toNat_false]; omega)

theorem status_eq (s : State) : s.status = BitVec.ofNat 8 (s.flags.c.toNat + 2 * s.flags.ac.toNat +
    4 * s.flags.z.toNat + 8 * s.flags.ov.toNat + 16 * s.pdf.toNat + 32 * s.tof.toNat) :=
  byteOf_eq (by rw [Bool.toNat_false]; omega)

theorem intc0_eq (s : State) : s.intc0 = BitVec.ofNat 8 (s.emi.toNat + 2 * s.en.int0.toNat + 4 * s.en.int1.toNat +
    8 * s.en.t0.toNat + 16 * s.req.int0.toNat + 32 * s.req.int1.toNat + 64 * s.req.t0.toNat) :=
  byteOf_eq (by rw [Bool.toNat_false]; omega)

theorem intc1_eq (s : State) : s.intc1 = BitVec.ofNat 8 (s.en.t1.toNat + 2 * s.en.tb.toNat + 4 * s.en.rtc.toNat +
    16 * s.req.t1.toNat + 32 * s.req.tb.toNat + 64 * s.req.rtc.toNat) :=
  byteOf_eq (by rw [Bool.toNat_false]; omega)

theorem Timer.control_eq (t : Timer) : t.control = BitVec.ofNat 8
    (8 * t.te.toNat + 16 * t.ton.toNat + 32 * t.tn2.toNat + 64 * t.tn0.toNat + 128 * t.tn1.toNat) :=
  byteOf_eq (by rw [Bool.toNat_false]; omega)

theorem tblh_byte_eq (h : BitVec 7) : 0#1 ++ h = BitVec.ofNat 8 h.toNat := by
  apply BitVec.eq_of_toNat_eq
  have hh := h.isLt
  rw [BitVec.toNat_append, BitVec.toNat_ofNat]
  simp only [BitVec.toNat_ofNat, Nat.zero_mod, Nat.zero_shiftLeft, Nat.zero_or]
  omega

/-- The bits of a byte composed of bits, from bit 0 up. -/
theorem byteOf_getLsbD (b7 b6 b5 b4 b3 b2 b1 b0 : Bool) {i : Nat} (hi : i < 8) :
    (byteOf b7 b6 b5 b4 b3 b2 b1 b0).getLsbD i = [b0, b1, b2, b3, b4, b5, b6, b7].getD i false := by
  have h7 := b7.toNat_le
  have h6 := b6.toNat_le
  have h5 := b5.toNat_le
  have h4 := b4.toNat_le
  have h3 := b3.toNat_le
  have h2 := b2.toNat_le
  have h1 := b1.toNat_le
  have h0 := b0.toNat_le
  rw [byteOf, BitVec.getLsbD_ofNat, decide_eq_true hi, Bool.true_and, Nat.testBit_eq_decide_div_mod_eq,
    Bool.eq_iff_iff, decide_eq_true_eq, ← Bool.toNat_eq_one]
  interval_cases i
  all_goals
    simp only [List.getD_cons_zero, List.getD_cons_succ]
    omega

/-- Bit i of PA read is the level of pad i (R90). -/
theorem paPads_getLsbD (s : State) (fl : Byte) {i : Nat} (hi : i < 8) : (s.paPads fl).getLsbD i = s.paPad fl i := by
  rw [State.paPads, byteOf_getLsbD _ _ _ _ _ _ _ _ (by omega)]
  interval_cases i <;> rfl

theorem pcPads_getLsbD (s : State) (fl : Byte) {i : Nat} (hi : i < 4) : (s.pcPads fl).getLsbD i = s.pcPad fl i := by
  rw [State.pcPads, byteOf_getLsbD _ _ _ _ _ _ _ _ (by omega)]
  interval_cases i <;> rfl

theorem pcPads_toNat_lt (s : State) (fl : Byte) : (s.pcPads fl).toNat < 16 := by
  have h3 := (s.pcPad fl 3).toNat_le
  have h2 := (s.pcPad fl 2).toNat_le
  have h1 := (s.pcPad fl 1).toNat_le
  have h0 := (s.pcPad fl 0).toNat_le
  rw [State.pcPads, byteOf, BitVec.toNat_ofNat]
  simp only [Bool.toNat_false]
  omega

/-- Settles O30: each line is the read at its address, its byte in numbers. -/
theorem readTable : Obligations.ReadTable := by
  intro s
  rw [← rtcc_eq, ← status_eq, ← intc0_eq, ← intc1_eq, ← s.t0.control_eq, ← s.t1.control_eq, ← lowByte_eq, ← tblh_byte_eq]
  refine ⟨rfl, rfl, rfl, rfl, rfl, rfl, rfl, rfl, rfl, rfl, rfl, rfl, ⟨_, rfl, rfl⟩, ⟨_, rfl, rfl⟩, rfl, rfl,
    ⟨_, _, _, rfl, fun i => paPads_getLsbD s _, rfl⟩, rfl,
    ⟨_, _, _, rfl, fun i => pcPads_getLsbD s _, pcPads_toNat_lt s _, rfl⟩, fun a => memRead_unused,
    fun a => memRead_absent, fun a v => memRead_ram, fun n hbp hlo hhi hn => ?_⟩
  exact ⟨_, _, memRead_lcd hbp hlo hhi hn, append_low_nibble _ _, rfl⟩

/-! ## Port A -/

/-- The mask of R226 and R227 is bit i alone. -/
theorem bitMask_getLsbD (i : BitVec 3) (j : Nat) : (1#8 <<< i.toNat).getLsbD j = decide (j = i.toNat) := by
  have hi : i.toNat < 8 := i.isLt
  rw [← BitVec.twoPow_eq, BitVec.getLsbD_twoPow, decide_eq_true hi, Bool.true_and, decide_eq_decide]
  exact eq_comm

theorem setBit_getLsbD (i : BitVec 3) (v : Byte) (j : Nat) :
    (setBit i v).getLsbD j = (v.getLsbD j || decide (j = i.toNat)) := by
  rw [setBit, BitVec.getLsbD_or, bitMask_getLsbD]

theorem clearBit_getLsbD (i : BitVec 3) (v : Byte) {j : Nat} (hj : j < 8) :
    (clearBit i v).getLsbD j = (v.getLsbD j && !decide (j = i.toNat)) := by
  rw [clearBit, BitVec.getLsbD_and, BitVec.getLsbD_not, bitMask_getLsbD, decide_eq_true hj, Bool.true_and]

/-- SET [12H].i and CLR [12H].i read the pads and write the latch (R93, R365). -/
theorem memUpdate_pa (g : Byte → Byte) (s : State) : memUpdate g 0x12 s = .next { fetched s with
    paLatch := g (s.paPads (Config.drawPads s.draws)), draws := s.draws + 1 } := rfl

/-- An NMOS pin driven low from outside is low whatever its latch holds (R361). -/
theorem paPad_driven_low {fl : Byte} {j : Nat} (hnmos : s.opt.paLowCmos = false)
    (hdriven : s.paDriven.getLsbD j = true) (hlow : s.paLevel.getLsbD j = false) : s.paPad fl j = false := by
  simp [State.paPad, State.paCmos, nmosPad, hnmos, hdriven, hlow]

/-- Settles O34: the latch takes the pads read, with the one bit set or cleared. -/
theorem portReadModifyWriteCopiesPads : Obligations.PortReadModifyWriteCopiesPads := by
  intro s i
  have hset {j : Nat} (hj : j < 8) (hji : j ≠ i.toNat) :
      (setBit i (s.paPads (Config.drawPads s.draws))).getLsbD j = s.paPad (Config.drawPads s.draws) j := by
    simp only [setBit_getLsbD, paPads_getLsbD s _ hj, hji, decide_false, Bool.or_false]
  have hclear {j : Nat} (hj : j < 8) (hji : j ≠ i.toNat) :
      (clearBit i (s.paPads (Config.drawPads s.draws))).getLsbD j = s.paPad (Config.drawPads s.draws) j := by
    simp only [clearBit_getLsbD i _ hj, paPads_getLsbD s _ hj, hji, decide_false, Bool.not_false, Bool.and_true]
  refine ⟨_, _, _, memUpdate_pa _ s, memUpdate_pa _ s, ?_, ?_, fun j hj hji => ⟨hset hj hji, hclear hj hji⟩,
    fun hnmos j hj hji hdriven hlow => (hset hj hji).trans (paPad_driven_low hnmos hdriven hlow)⟩
  · simp only [setBit_getLsbD, decide_true, Bool.or_true]
  · simp only [clearBit_getLsbD i _ i.isLt, decide_true, Bool.not_true, Bool.and_false]

end Sys2Proof.Machine
end

section
/-! PROOF. The encoding: the word of each format taken apart into its fields and put together again, and from it both
directions of the round trip and the words that spell no instruction. -/

namespace Sys2Proof

/-! ## The words in numbers -/

theorem toNat_append_eq_add {n k : Nat} (a : BitVec n) (b : BitVec k) :
    (a ++ b).toNat = a.toNat * 2 ^ k + b.toNat := by
  rw [BitVec.toNat_append, ← Nat.shiftLeft_add_eq_or_of_lt b.isLt, Nat.shiftLeft_eq]

theorem encodeSlot_toNat (slot : BitVec 6) (lo : Byte) :
    (encodeSlot slot lo).toNat = 256 * slot.toNat + lo.toNat := by
  simp only [encodeSlot, toNat_append_eq_add, BitVec.toNat_ofNat]
  omega

theorem encodeJump_toNat (op : BitVec 3) (addr : PAddr) :
    (encodeJump op addr).toNat = 4096 * op.toNat + addr.toNat := by
  rw [encodeJump, toNat_append_eq_add]
  omega

theorem encodeBit_toNat (op : BitVec 4) (i : BitVec 3) (m : Byte) :
    (encodeBit op i m).toNat = 2048 * op.toNat + 256 * i.toNat + m.toNat := by
  simp only [encodeBit, toNat_append_eq_add]
  omega

/-! ## Decoding a word by its fields

The two high bits of a word select its format (R127): `encodeSlot slot lo` has a 0 in bit 14,
`encodeJump (0b10#2 ++ j) addr` is of format J and `encodeBit (0b11#2 ++ b) i m` of format B. -/

theorem decode_encodeSlot (slot : BitVec 6) (lo : Byte) : decode (encodeSlot slot lo) = decodeSlot slot lo := by
  have hlo : (encodeSlot slot lo).extractLsb' 0 8 = lo := BitVec.extractLsb'_append_eq_right
  have hslot : (encodeSlot slot lo).extractLsb' 8 6 = slot := by
    rw [encodeSlot, BitVec.extractLsb'_append_eq_of_le (by decide), BitVec.extractLsb'_append_eq_right]
  have hformat : ((encodeSlot slot lo).extractLsb' 13 2).toNat < 2 := by
    rw [BitVec.extractLsb'_toNat, encodeSlot_toNat, Nat.shiftRight_eq_div_pow]
    omega
  have hne {f : BitVec 2} (hf : 2 ≤ f.toNat) : (encodeSlot slot lo).extractLsb' 13 2 ≠ f := by
    rintro rfl
    omega
  rw [decode, if_neg (hne (by decide)), if_neg (hne (by decide)), hslot, hlo]

theorem decode_encodeJump (j : Bool) (addr : PAddr) :
    decode (encodeJump (0b10#2 ++ BitVec.ofBool j) addr) = .ok (decodeJump j addr) := by
  have haddr : (encodeJump (0b10#2 ++ BitVec.ofBool j) addr).extractLsb' 0 12 = addr :=
    BitVec.extractLsb'_append_eq_right
  have hj : (encodeJump (0b10#2 ++ BitVec.ofBool j) addr).getLsbD 12 = j := by
    rw [encodeJump, BitVec.getLsbD_append, if_neg (by decide), BitVec.getLsbD_append, if_pos (by decide),
      BitVec.getLsbD_ofBool]
    rfl
  have hformat : (encodeJump (0b10#2 ++ BitVec.ofBool j) addr).extractLsb' 13 2 = 0b10#2 := by
    rw [encodeJump, BitVec.extractLsb'_append_eq_of_le (by decide), BitVec.extractLsb'_append_eq_left]
  rw [decode, if_pos hformat, hj, haddr]

theorem decode_encodeBit (b : BitVec 2) (i : BitVec 3) (m : Byte) :
    decode (encodeBit (0b11#2 ++ b) i m) = .ok (decodeBit b m i) := by
  have hm : (encodeBit (0b11#2 ++ b) i m).extractLsb' 0 8 = m := BitVec.extractLsb'_append_eq_right
  have hi : (encodeBit (0b11#2 ++ b) i m).extractLsb' 8 3 = i := by
    rw [encodeBit, BitVec.extractLsb'_append_eq_of_le (by decide), BitVec.extractLsb'_append_eq_right]
  have hb : (encodeBit (0b11#2 ++ b) i m).extractLsb' 11 2 = b := by
    rw [encodeBit, BitVec.extractLsb'_append_eq_of_le (by decide), BitVec.extractLsb'_append_eq_of_le (by decide),
      BitVec.extractLsb'_append_eq_right]
  have hformat : (encodeBit (0b11#2 ++ b) i m).extractLsb' 13 2 = 0b11#2 := by
    rw [encodeBit, BitVec.extractLsb'_append_eq_of_le (by decide), BitVec.extractLsb'_append_eq_of_le (by decide),
      BitVec.extractLsb'_append_eq_left]
  have hne : (0b11#2 : BitVec 2) ≠ 0b10#2 := by decide
  rw [decode, hformat, if_neg hne, if_pos rfl, hb, hm, hi]

/-- Every word has one of the formats of R124. -/
theorem word_formats (w : PWord) :
    (∃ slot lo, w = encodeSlot slot lo) ∨ (∃ j addr, w = encodeJump (0b10#2 ++ BitVec.ofBool j) addr) ∨
      ∃ (b : BitVec 2) (i : BitVec 3) (m : Byte), w = encodeBit (0b11#2 ++ b) i m := by
  have hw := w.isLt
  obtain hslot | hjump | hbit : w.toNat < 0x4000 ∨ (0x4000 ≤ w.toNat ∧ w.toNat < 0x6000) ∨ 0x6000 ≤ w.toNat := by
    omega
  · refine .inl ⟨w.extractLsb' 8 6, w.extractLsb' 0 8, BitVec.eq_of_toNat_eq ?_⟩
    simp only [encodeSlot_toNat, BitVec.extractLsb'_toNat, Nat.shiftRight_eq_div_pow]
    omega
  · refine .inr (.inl ⟨decide (0x5000 ≤ w.toNat), w.extractLsb' 0 12, BitVec.eq_of_toNat_eq ?_⟩)
    simp only [encodeJump_toNat, toNat_append_eq_add, BitVec.toNat_ofBool, Bool.toNat, Bool.cond_decide,
      BitVec.toNat_ofNat, BitVec.extractLsb'_toNat, Nat.shiftRight_eq_div_pow]
    split <;> omega
  · refine .inr (.inr ⟨w.extractLsb' 11 2, w.extractLsb' 8 3, w.extractLsb' 0 8, BitVec.eq_of_toNat_eq ?_⟩)
    simp only [encodeBit_toNat, toNat_append_eq_add, BitVec.toNat_ofNat, BitVec.extractLsb'_toNat,
      Nat.shiftRight_eq_div_pow]
    omega

/-! ## The decoder undoes the encoder -/

/-- One case for each format; the slot, the sub-opcode or the opcode bits then select the instruction. -/
theorem decode_encode (i : Instr) : decode (encode i) = .ok i := by
  cases i with
  | nop | ret | reti | clrWdt | clrWdt1 | clrWdt2 | halt => exact decode_encodeSlot 0 _
  | addA m | addM m | adcA m | adcM m | subA m | subM m | sbcA m | sbcM m | daa m | andA m | orA m | xorA m | andM m
  | orM m | xorM m | cpl m | cplA m | incA m | inc m | decA m | dec m | rrA m | rr m | rrcA m | rrc m | rlA m | rl m
  | rlcA m | rlc m | movA m | movM m | sz m | szA m | siz m | sdz m | sizA m | sdzA m | tabrdc m | tabrdl m | clrAll m
  | setAll m | swap m | swapA m => exact decode_encodeSlot _ m
  | addX x | subX x | andX x | orX x | xorX x | movX x | retX x => exact decode_encodeSlot _ x
  | jmp addr => exact decode_encodeJump false addr
  | call addr => exact decode_encodeJump true addr
  | clrBit m i => exact decode_encodeBit 0 i m
  | setBit m i => exact decode_encodeBit 1 i m
  | szBit m i => exact decode_encodeBit 2 i m
  | snzBit m i => exact decode_encodeBit 3 i m

/-- Settles O1: the round trip holds of every instruction, well formed or not. -/
theorem decodeOfEncodeIsIdentity : Obligations.DecodeOfEncodeIsIdentity := fun i _ => decode_encode i

/-! ## The encoder undoes the decoder -/

/-- A sub-opcode that decodes is the one its instruction is encoded with (R125). -/
theorem encode_of_decodeSub {sub : Byte} {i : Instr} (h : decodeSub sub = .ok i) : encode i = encodeSlot 0 sub := by
  have hsub : sub = BitVec.ofNat 8 sub.toNat := by simp
  unfold decodeSub at h
  split at h
  case h_8 => cases h
  all_goals
    rename_i hk
    cases h
    rw [hsub, hk]
    rfl

/-- Slot by slot, the instruction read is encoded with the slot and operand it was read from (R125). -/
theorem encode_of_decodeSlot {slot : BitVec 6} {lo : Byte} {i : Instr} (h : decodeSlot slot lo = .ok i) :
    encode i = encodeSlot slot lo := by
  have hslot : slot = BitVec.ofNat 6 slot.toNat := by simp
  unfold decodeSlot at h
  split at h
  case h_1 hzero =>
    rw [hslot, hzero]
    exact encode_of_decodeSub h
  case h_52 => cases h
  all_goals
    rename_i hk
    cases h
    rw [hslot, hk]
    rfl

theorem encode_decodeJump (j : Bool) (addr : PAddr) :
    encode (decodeJump j addr) = encodeJump (0b10#2 ++ BitVec.ofBool j) addr := by
  cases j <;> rfl

theorem encode_decodeBit (b : BitVec 2) (m : Byte) (i : BitVec 3) :
    encode (decodeBit b m i) = encodeBit (0b11#2 ++ b) i m := by
  obtain rfl | rfl | rfl | rfl : b = 0 ∨ b = 1 ∨ b = 2 ∨ b = 3 := by
    revert b
    decide
  all_goals rfl

/-- Settles O2, by the format of the word. -/
theorem encodeOfDecodedIsTheWord : Obligations.EncodeOfDecodedIsTheWord := by
  intro w i h
  obtain ⟨slot, lo, rfl⟩ | ⟨j, addr, rfl⟩ | ⟨b, k, m, rfl⟩ := word_formats w
  · rw [decode_encodeSlot] at h
    exact encode_of_decodeSlot h
  · rw [decode_encodeJump] at h
    cases h
    exact encode_decodeJump j addr
  · rw [decode_encodeBit] at h
    cases h
    exact encode_decodeBit b m k

/-! ## The words that spell no instruction -/

theorem ok_ne_error {i : Instr} : ¬ ∃ e : DecodeError, Except.ok i = Except.error e := by
  rintro ⟨e, he⟩
  cases he

theorem decodeSub_eq_error_iff (sub : Byte) : (∃ e, decodeSub sub = .error e) ↔ 7 ≤ sub.toNat := by
  unfold decodeSub
  split
  case h_8 =>
    simp only [imp_false] at *
    exact iff_of_true ⟨_, rfl⟩ (by omega)
  all_goals exact iff_of_false ok_ne_error (by omega)

theorem decodeSlot_eq_error_iff (slot : BitVec 6) (lo : Byte) : (∃ e, decodeSlot slot lo = .error e) ↔
    (slot.toNat = 0 ∧ 7 ≤ lo.toNat) ∨ (0x2C ≤ slot.toNat ∧ slot.toNat ≤ 0x2F) ∨ 0x37 ≤ slot.toNat := by
  unfold decodeSlot
  split
  case h_1 hzero =>
    rw [decodeSub_eq_error_iff]
    omega
  case h_52 =>
    simp only [imp_false] at *
    exact iff_of_true ⟨_, rfl⟩ (by omega)
  all_goals exact iff_of_false ok_ne_error (by omega)

/-- Settles O3: the words of format J and B all spell instructions and lie above the ranges; the others are refused by
their slot or, in slot 00H, by their sub-opcode. -/
theorem unassignedWordsExactly : Obligations.UnassignedWordsExactly := by
  intro w
  obtain ⟨slot, lo, rfl⟩ | ⟨j, addr, rfl⟩ | ⟨b, i, m, rfl⟩ := word_formats w
  · rw [decode_encodeSlot, decodeSlot_eq_error_iff, encodeSlot_toNat]
    have hlo := lo.isLt
    have hslot := slot.isLt
    omega
  · rw [decode_encodeJump, encodeJump_toNat, toNat_append_eq_add, BitVec.toNat_ofNat]
    exact iff_of_false ok_ne_error (by omega)
  · rw [decode_encodeBit, encodeBit_toNat, toNat_append_eq_add, BitVec.toNat_ofNat]
    exact iff_of_false ok_ne_error (by omega)

/-- Settles O4: each of the words is the word of its instruction. -/
theorem writtenWordsDecode : Obligations.WrittenWordsDecode :=
  ⟨decode_encode .halt, decode_encode (.addA 0x60), decode_encode (.cpl 0x60), decode_encode (.tabrdl 0x61),
    decode_encode (.movX 0x80), decode_encode (.jmp 0xABC), decode_encode (.call 0x300),
    decode_encode (.setBit 0x0A 7), decode_encode (.snzBit 0x0A 2)⟩

end Sys2Proof
end

section
/-! PROOF. The results of the arithmetic on the accumulator, and the decimal sum that DAA makes of the sum of two BCD
bytes. -/

namespace Sys2Proof.Machine

variable {f : AluOp} {fl : Flags} {a b m v r x : Byte} {s s1 t : State}

/-! ## The accumulator forms, run forward -/

theorem accFromImm_of_result (hf : f s.acc s.flags x = (r, fl)) :
    accFromImm f x s = .next { s.goOn 1 with acc := r, flags := fl } := by
  rw [accFromImm, fetched_acc, fetched_flags, hf]
  rfl

/-- The read of an operand leaves the core registers as the fetch left them (R90). -/
theorem memRead_fetched_core (h : memRead m (fetched s) = .ok (v, s1)) :
    s1.pc = s.pc + 1 ∧ s1.cycles = s.cycles + 1 ∧ s1.acc = s.acc ∧ s1.flags = s.flags := by
  obtain ⟨b0, b1, d, rfl⟩ := memRead_effect h
  exact ⟨rfl, rfl, rfl, rfl⟩

theorem accFromMem_of_result (h : memRead m (fetched s) = .ok (v, s1)) (hf : f s.acc s.flags v = (r, fl)) :
    accFromMem f m s = .next { s1 with acc := r, flags := fl } := by
  obtain ⟨-, -, hacc, hflags⟩ := memRead_fetched_core h
  rw [accFromMem_of_read h, hacc, hflags, hf]

/-! ## ADD, ADC, SUB, SBC to the accumulator -/

/-- Settles O7: `accFromImm` run forward, with the sum and the difference of the adder. -/
theorem addAndSubImmediate : Obligations.AddAndSubImmediate := fun x _ =>
  ⟨encodeSlot_eq_wordWith _ x, encodeSlot_eq_wordWith _ x, accFromImm_of_result (aluAdd_eq _ _ _),
    accFromImm_of_result (aluSub_eq _ _ _)⟩

/-- Settles O9: `accFromMem` run forward, with the sums and differences of the adder. -/
theorem accArithmeticFromMemory : Obligations.AccArithmeticFromMemory := by
  intro m v s s1
  refine ⟨encodeSlot_eq_wordWith _ m, encodeSlot_eq_wordWith _ m, encodeSlot_eq_wordWith _ m,
    encodeSlot_eq_wordWith _ m, fun hr => ?_⟩
  obtain ⟨hpc, hcycles, -, -⟩ := memRead_fetched_core hr
  exact ⟨hpc, hcycles, accFromMem_of_result hr (aluAdd_eq _ _ _), accFromMem_of_result hr (aluAdc_eq _ _ _),
    accFromMem_of_result hr (aluSub_eq _ _ _), accFromMem_of_result hr (aluSbc_eq _ _ _)⟩

/-! ## The decimal sum -/

/-- Both digits of the byte are decimal (R161). -/
def IsBcd (v : Byte) : Prop := v.toNat % 16 ≤ 9 ∧ v.toNat / 16 ≤ 9

/-- The number the two digits of a BCD byte spell. -/
def bcdValue (v : Byte) : Nat := 10 * (v.toNat / 16) + v.toNat % 16

/-- The byte with the last two digits of a number. -/
def bcdByte (n : Nat) : Byte := BitVec.ofNat 8 (16 * (n / 10 % 10) + n % 10)

theorem bcdByte_digits (n : Nat) : (bcdByte n).toNat % 16 = n % 10 ∧ (bcdByte n).toNat / 16 = n / 10 % 10 := by
  rw [bcdByte, BitVec.toNat_ofNat]
  omega

theorem bcdValue_le (h : IsBcd v) : bcdValue v ≤ 99 := by
  obtain ⟨hlo, hhi⟩ := h
  rw [bcdValue]
  omega

/-- A number below 200 is its hundred and its last two digits. -/
theorem hundred_add_digits {n : Nat} (hn : n < 200) :
    100 * (decide (100 ≤ n)).toNat + 10 * (n / 10 % 10) + n % 10 = n := by
  by_cases h : 100 ≤ n
  · rw [decide_eq_true h, Bool.toNat_true]
    omega
  · rw [decide_eq_false h, Bool.toNat_false]
    omega

/-- The nibbles and the carry of a sum of bytes, by the sums `x` of the low and `y` of the high nibbles (R150). -/
theorem add_nibbles {x y : Nat} (hx : x = a.toNat % 16 + b.toNat % 16) (hy : y = a.toNat / 16 + b.toNat / 16) :
    (a + b).toNat % 16 = x % 16 ∧ (a + b).toNat / 16 = (y + x / 16) % 16 ∧
      (256 ≤ a.toNat + b.toNat ↔ 16 ≤ y + x / 16) := by
  rw [BitVec.toNat_add]
  omega

/-- R161 on a sum of decimal digits: with the digit sums `x` (low) and `y` (high), the adjustment gives the last two
digits of `10 * y + x`, and its hundred in C. Where AC is set the low nibble is at most 2, so the refused corner does not
occur. -/
theorem daaAdjust_of_digitSums {acc : Byte} {x y : Nat} (hx : x ≤ 18) (hy : y ≤ 18) (hlo : acc.toNat % 16 = x % 16)
    (hhi : acc.toNat / 16 = (y + x / 16) % 16) (hac : fl.ac = decide (16 ≤ x))
    (hc : fl.c = decide (16 ≤ y + x / 16)) :
    daaAdjust acc fl = some (bcdByte (10 * y + x), decide (100 ≤ 10 * y + x)) := by
  refine daaAdjust_eq hlo.symm hhi.symm ?corner ?adjusted ?kept rfl ?carry ?noCarry
  all_goals
    simp only [hac, hc, decide_eq_true_eq, decide_eq_decide]
    clear hlo hhi
  case corner | adjusted | kept => omega
  -- The ten of the low digits is the nibble carry (16 or more) or what DAA adds (10 to 15).
  case carry | noCarry => obtain hlow | hlow := Nat.lt_or_ge x 16 <;> split <;> omega

/-- DAA corrects the sum of two BCD bytes to their decimal sum, with the flags that ADD leaves (R153, R161). -/
theorem daaAdjust_add_of_bcd (ha : IsBcd a) (hb : IsBcd b) :
    daaAdjust (a + b) (Flags.ofSum a b false) =
      some (bcdByte (bcdValue a + bcdValue b), decide (100 ≤ bcdValue a + bcdValue b)) := by
  obtain ⟨halo, hahi⟩ := ha
  obtain ⟨hblo, hbhi⟩ := hb
  obtain ⟨hlo, hhi, hc⟩ := add_nibbles (a := a) (b := b) rfl rfl
  have hvalue : bcdValue a + bcdValue b =
      10 * (a.toNat / 16 + b.toNat / 16) + (a.toNat % 16 + b.toNat % 16) := by
    unfold bcdValue
    omega
  rw [hvalue]
  exact daaAdjust_of_digitSums (Nat.add_le_add halo hblo) (Nat.add_le_add hahi hbhi) hlo hhi rfl
    (decide_eq_decide.mpr hc)

theorem ne_of_ram (hm : 0x60 ≤ m.toNat) (ha : a.toNat < 0x60) : m ≠ a := by
  rintro rfl
  omega

/-- DAA with a destination in RAM stores the adjusted byte and the adjusted C (R161). -/
theorem execDaa_ram {c : Bool} (hm : 0x60 ≤ m.toNat) (hadjust : daaAdjust t.acc t.flags = some (r, c)) :
    execDaa m t = .next { fetched t with ram := Memory.write t.ram m.toNat r, flags := { t.flags with c := c } } := by
  have hl : resolve m t = .ok (.data m) := resolve_direct (ne_of_ram hm (by decide)) (ne_of_ram hm (by decide))
  have hne : Loc.data m ≠ Loc.statusReg := fun h => ne_of_ram hm (by decide) (Loc.data.inj h)
  have hw : storeLoc (.data m) r (fetched t) = .ok { fetched t with ram := Memory.write t.ram m.toNat r } :=
    (memWrite_of_resolve (s := fetched t) hl).symm.trans (memWrite_ram hm)
  exact execDaa_of_store hl hne hadjust hw

/-- Settles O18: ADD leaves the sum and its flags in ACC, and DAA stores the two digits of the decimal sum. -/
theorem daaAfterAddOfBcdIsDecimalSum : Obligations.DaaAfterAddOfBcdIsDecimalSum := by
  rintro a b m s halo hahi hblo hbhi rfl hm
  have ha : IsBcd s.acc := ⟨halo, hahi⟩
  have hb : IsBcd b := ⟨hblo, hbhi⟩
  have hadd : exec (.addX b) s = .next { s.goOn 1 with acc := s.acc + b, flags := Flags.ofSum s.acc b false } :=
    accFromImm_of_result (aluAdd_eq _ _ _)
  refine ⟨_, _, hadd, execDaa_ram hm (daaAdjust_add_of_bcd ha hb), _, Memory.read_write_same _ _ _, ?_⟩
  have hsum : bcdValue s.acc + bcdValue b < 200 := by
    have := bcdValue_le ha
    have := bcdValue_le hb
    omega
  obtain ⟨hlo, hhi⟩ := bcdByte_digits (bcdValue s.acc + bcdValue b)
  rw [hlo, hhi]
  exact ⟨by omega, by omega, hundred_add_digits hsum⟩

end Sys2Proof.Machine
end

section
/-! PROOF. The results of the logic, the increment and decrement, and the move of an immediate, on the accumulator. -/

namespace Sys2Proof.Machine

/-- Settles O10: `accFromMem` run forward, with operations that write Z alone (R170, R190). -/
theorem accLogicFromMemory : Obligations.AccLogicFromMemory := by
  intro m v s s1
  refine ⟨encodeSlot_eq_wordWith _ m, encodeSlot_eq_wordWith _ m, encodeSlot_eq_wordWith _ m,
    encodeSlot_eq_wordWith _ m, encodeSlot_eq_wordWith _ m, encodeSlot_eq_wordWith _ m, fun hr => ?_⟩
  obtain ⟨hpc, hcycles, -, -⟩ := memRead_fetched_core hr
  exact ⟨hpc, hcycles, accFromMem_of_result hr (withZ_eq _ _), accFromMem_of_result hr (withZ_eq _ _),
    accFromMem_of_result hr (withZ_eq _ _), accFromMem_of_result hr (aluCpl_eq _ _ _),
    accFromMem_of_result hr (withZ_eq _ _), accFromMem_of_result hr (withZ_eq _ _)⟩

/-- Settles O8: `accFromImm` run forward; the three logic operations write Z alone, and MOV writes back the flags it
finds (R218). -/
theorem logicAndMoveImmediate : Obligations.LogicAndMoveImmediate := by
  intro x s
  have hmov : aluPlain id s.acc s.flags x = (x, s.flags) := rfl
  exact ⟨encodeSlot_eq_wordWith _ x, encodeSlot_eq_wordWith _ x, encodeSlot_eq_wordWith _ x,
    encodeSlot_eq_wordWith _ x, accFromImm_of_result (withZ_eq _ _), accFromImm_of_result (withZ_eq _ _),
    accFromImm_of_result (withZ_eq _ _), accFromImm_of_result hmov⟩

end Sys2Proof.Machine
end

section
/-! PROOF. The results of the rotates, SWAP, the moves and the bit updates. -/

namespace Sys2Proof

/-- The word of format B is the row's match value with the bit index and the address added (R125). -/
theorem encodeBit_eq_bitWordWith (op : BitVec 4) (i : BitVec 3) (m : Byte) :
    encodeBit op i m = bitWordWith (2048 * op.toNat) i m := by
  rw [bitWordWith, ← encodeBit_toNat, BitVec.ofNat_toNat, BitVec.setWidth_eq]

end Sys2Proof

namespace Sys2Proof.Machine

/-! ## Rotated words and bit masks -/

/-- The low `n` bits put above the `k` high ones are the word rotated left by `k`: the form in which the spec writes
the rotates and SWAP. -/
theorem low_append_high_eq_rotateLeft {n k : Nat} (v : BitVec (n + k)) (hn : 0 < n) :
    v.extractLsb' 0 n ++ v.extractLsb' n k = v.rotateLeft k := by
  have hk : k % (n + k) = k := Nat.mod_eq_of_lt (by omega)
  ext j hj
  simp only [BitVec.getElem_append, BitVec.getElem_extractLsb', BitVec.getElem_rotateLeft, hk, Nat.add_sub_cancel,
    Nat.zero_add]
  split <;> exact BitVec.getLsbD_eq_getElem _

/-- `v[6:0] : v[7]` (R205, R206). -/
theorem rotateLeft_eq (v : Byte) : rotateLeft v = v.rotateLeft 1 :=
  low_append_high_eq_rotateLeft (n := 7) (k := 1) v (by decide)

/-- `v[3:0] : v[7:4]` (R276, R277). -/
theorem swapNibbles_eq (v : Byte) : swapNibbles v = v.rotateLeft 4 :=
  low_append_high_eq_rotateLeft (n := 4) (k := 4) v (by decide)

/-- `v[0] : v[7:1]` (R201, R202): seven places to the left are one to the right. -/
theorem rotateRight_eq (v : Byte) : rotateRight v = v.rotateRight 1 :=
  calc rotateRight v
    _ = v.rotateLeft 7 := low_append_high_eq_rotateLeft (n := 1) (k := 7) v (by decide)
    _ = v <<< 7 ||| v >>> 1 := BitVec.rotateLeft_def
    _ = v >>> 1 ||| v <<< 7 := BitVec.or_comm _ _
    _ = v.rotateRight 1 := (BitVec.rotateRight_def (x := v) (r := 1)).symm

theorem bitMask_eq (i : BitVec 3) : 1#8 <<< i.toNat = BitVec.ofNat 8 (2 ^ i.toNat) := by
  apply BitVec.eq_of_toNat_eq
  rw [← BitVec.twoPow_eq, BitVec.toNat_twoPow, BitVec.toNat_ofNat]

theorem clearBit_eq (i : BitVec 3) (v : Byte) : clearBit i v = v &&& ~~~(BitVec.ofNat 8 (2 ^ i.toNat)) := by
  rw [clearBit, bitMask_eq]

theorem setBit_eq (i : BitVec 3) (v : Byte) : setBit i v = v ||| BitVec.ofNat 8 (2 ^ i.toNat) := by
  rw [setBit, bitMask_eq]

/-! ## The operand forms without flags, run forward -/

variable {g : Byte → Byte} {m r v : Byte} {s s1 s2 : State} {l : Loc}

/-- An operation that writes no flag changes ACC alone in the state after the read. -/
theorem accFromMem_plain (hread : memRead m (fetched s) = .ok (v, s1)) (hg : g v = r) :
    accFromMem (aluPlain g) m s = .next { s1 with acc := r } := by
  rw [accFromMem_of_read hread, aluPlain, hg]

/-- A read-modify-write without flags ends in the state after the store, whatever its destination (R93). -/
theorem memUpdate_of_store (hl : resolve m s = .ok l) (hread : readLoc l (fetched s) = .ok (v, s1)) (hg : g v = r)
    (hstore : storeLoc l r s1 = .ok s2) : memUpdate g m s = .next s2 := by
  simp only [memUpdate, resolve_fetched, hl, hread, hg, hstore, outcome]

/-! ## The statements -/

/-- Settles O11: `accFromMem` run forward; the rotates through carry write the flags, the other forms keep those the
read leaves. -/
theorem accMoveAndRotateFromMemory : Obligations.AccMoveAndRotateFromMemory := by
  intro m v s s1
  refine ⟨encodeSlot_eq_wordWith _ m, encodeSlot_eq_wordWith _ m, encodeSlot_eq_wordWith _ m,
    encodeSlot_eq_wordWith _ m, encodeSlot_eq_wordWith _ m, encodeSlot_eq_wordWith _ m, fun hread => ?_⟩
  obtain ⟨hpc, hcycles, -, -⟩ := memRead_fetched_core hread
  rw [← rotateRightIn_eq, ← rotateLeftIn_eq]
  exact ⟨hpc, hcycles, accFromMem_plain hread rfl, accFromMem_plain hread (swapNibbles_eq v),
    accFromMem_plain hread (rotateRight_eq v), accFromMem_plain hread (rotateLeft_eq v),
    accFromMem_of_result hread rfl, accFromMem_of_result hread rfl⟩

/-- Settles O15: `memUpdate` run forward, with the five changes of the byte; no clause asks the destination to be
other than STATUS. -/
theorem memoryUpdates : Obligations.MemoryUpdates := by
  intro m v i s s1 s2 l
  refine ⟨encodeSlot_eq_wordWith _ m, encodeSlot_eq_wordWith _ m, encodeSlot_eq_wordWith _ m,
    encodeBit_eq_bitWordWith _ i m, encodeBit_eq_bitWordWith _ i m, fun hl hread => ?_⟩
  exact ⟨memUpdate_of_store hl hread (rotateRight_eq v), memUpdate_of_store hl hread (rotateLeft_eq v),
    memUpdate_of_store hl hread (swapNibbles_eq v), memUpdate_of_store hl hread (clearBit_eq i v),
    memUpdate_of_store hl hread (setBit_eq i v)⟩

end Sys2Proof.Machine
end

section
/-! PROOF. The results of the stores that do not read their location. -/

namespace Sys2Proof.Machine

/-- A store without a read ends in the state after the write at the location its operand resolves to (R84, R91). -/
theorem memStore_of_store {m v : Byte} {s s2 : State} {l : Loc} (hl : resolve m s = .ok l)
    (hstore : storeLoc l v (fetched s) = .ok s2) : memStore v m s = .next s2 :=
  memStore_of_write <| calc memWrite m v (fetched s)
    _ = storeLoc l v (fetched s) := memWrite_of_resolve ((resolve_fetched m s).trans hl)
    _ = .ok s2 := hstore

/-- Settles O16: `memStore` run forward, with the byte of each instruction. -/
theorem memoryStores : Obligations.MemoryStores := by
  intro m s s2 l
  refine ⟨encodeSlot_eq_wordWith _ m, encodeSlot_eq_wordWith _ m, encodeSlot_eq_wordWith _ m, fun hl => ?_⟩
  exact ⟨memStore_of_store hl, memStore_of_store hl, memStore_of_store hl⟩

end Sys2Proof.Machine
end

section
/-! PROOF. The results of the test and accumulator skips, JMP and CALL. -/

namespace Sys2Proof

/-- The word of format J is the row's match value with the address added (R125). -/
theorem encodeJump_eq_jumpWordWith (op : BitVec 3) (addr : PAddr) :
    encodeJump op addr = jumpWordWith (4096 * op.toNat) addr := by
  rw [jumpWordWith, ← encodeJump_toNat, BitVec.ofNat_toNat, BitVec.setWidth_eq]

end Sys2Proof

namespace Sys2Proof.Machine

/-! ## The skips that store nothing, run forward -/

variable {g : Byte → Byte} {m v : Byte} {s s1 t : State} {P : Prop} [Decidable P]

/-- One word and one cycle past the fetched instruction, or two of each where the skip is taken (R230). -/
theorem skipIf_after_fetch {b : Bool} (hpc : t.pc = s.pc + 1) (hcycles : t.cycles = s.cycles + 1)
    (hb : b = true ↔ P) :
    skipIf b t = { t with pc := s.pc + (if P then 2 else 1), cycles := s.cycles + (if P then 2 else 1) } := by
  by_cases h : P
  · have htwo : s.pc + 1 + 1 = s.pc + 2 := BitVec.add_assoc s.pc 1 1
    rw [hb.mpr h, skipIf_true, if_pos h, if_pos h, hpc, hcycles, htwo]
  · rw [Bool.eq_false_iff.mpr (mt hb.mp h), skipIf_false, if_neg h, if_neg h, ← hpc, ← hcycles]

/-- A test writes nothing: only the program counter and the cycles tell whether it held. -/
theorem testSkip_of_read {p : Byte → Bool} (hread : memRead m (fetched s) = .ok (v, s1)) (hp : p v = true ↔ P) :
    testSkip p m s =
      .next { s1 with pc := s.pc + (if P then 2 else 1), cycles := s.cycles + (if P then 2 else 1) } := by
  obtain ⟨hpc, hcycles, -, -⟩ := memRead_fetched_core hread
  simp only [testSkip, hread, outcome, skipIf_after_fetch hpc hcycles hp]

/-- ACC takes the result in both outcomes; a zero result skips. -/
theorem accSkip_of_read (hread : memRead m (fetched s) = .ok (v, s1)) (hzero : g v = 0 ↔ P) :
    accSkip g m s = .next { s1 with
      acc := g v, pc := s.pc + (if P then 2 else 1), cycles := s.cycles + (if P then 2 else 1) } := by
  obtain ⟨hpc, hcycles, -, -⟩ := memRead_fetched_core hread
  have hskip := skipIf_after_fetch (t := { s1 with acc := g v }) hpc hcycles (decide_eq_true_iff.trans hzero)
  simp only [accSkip, hread, outcome, hskip]

/-- Settles O19: `testSkip` run forward; SZ [m].i skips on a clear bit, so its two outcomes are exchanged. -/
theorem testSkips : Obligations.TestSkips := by
  intro m v i s s1
  refine ⟨encodeSlot_eq_wordWith _ m, encodeBit_eq_bitWordWith _ i m, encodeBit_eq_bitWordWith _ i m, fun hread => ?_⟩
  refine ⟨testSkip_of_read hread decide_eq_true_iff, ?_, testSkip_of_read hread Iff.rfl⟩
  have hclear : (!v.getLsbD i.toNat) = true ↔ ¬ v.getLsbD i.toNat = true := by
    rw [Bool.not_eq_true', Bool.not_eq_true]
  have hskip := testSkip_of_read (p := fun v => !v.getLsbD i.toNat) hread hclear
  rwa [ite_not, ite_not] at hskip

/-- Settles O20: `accSkip` run forward, with the byte whose result is 0. -/
theorem accumulatorSkips : Obligations.AccumulatorSkips := by
  intro m v s s1
  refine ⟨encodeSlot_eq_wordWith _ m, encodeSlot_eq_wordWith _ m, encodeSlot_eq_wordWith _ m, fun hread => ?_⟩
  exact ⟨accSkip_of_read (g := id) hread Iff.rfl, accSkip_of_read hread (add_one_eq_zero_iff v),
    accSkip_of_read hread (sub_one_eq_zero_iff v)⟩

/-! ## JMP and CALL -/

/-- CALL keeps the five newest entries under the one it pushes (R29). -/
theorem execCall_of_take {addr : PAddr} {kept : List PAddr} (hkept : s.stk.take 5 = kept) :
    execCall addr s = .next { s with pc := addr, stk := (s.pc + 1) :: kept, cycles := s.cycles + 2 } := by
  subst hkept
  rfl

/-- Settles O22: below six entries the push loses none; of six it loses the last. -/
theorem jumpAndCall : Obligations.JumpAndCall := by
  intro addr s
  refine ⟨encodeJump_eq_jumpWordWith _ addr, encodeJump_eq_jumpWordWith _ addr, rfl, fun hroom => ?_, fun hfull => ?_⟩
  · exact execCall_of_take (List.take_of_length_le (Nat.le_of_lt_succ hroom))
  · have hlast : s.stk.dropLast = s.stk.take 5 := by rw [List.dropLast_eq_take, hfull]
    exact execCall_of_take hlast.symm

end Sys2Proof.Machine
end

section
/-! PROOF. NOP and HALT, the three clear instructions under each option, and the pair CLR WDT1 and CLR WDT2. -/

namespace Sys2Proof.Machine

/-- The state a fetch leaves is the one that only goes on by one word and one cycle (R24, R420). -/
theorem goOn_one (s : State) : s.goOn 1 = fetched s := rfl

theorem execNop_eq (s : State) : execNop s = .next (s.goOn 1) := by rw [goOn_one, execNop]

theorem execHalt_eq (s : State) : execHalt s = .next { s.goOn 1 with
    pdf := true, tof := false, halted := true, wdtCnt := 0, tbCnt := 0, rtcCnt := 0, bzCnt := 0 } := by
  rw [goOn_one, execHalt]

/-- Settles O25: each of the two has one rule without a case (R270, R278). -/
theorem nopAndHalt : Obligations.NopAndHalt := fun s => ⟨rfl, rfl, execNop_eq s, execHalt_eq s⟩

/-! ## Each clear instruction, active and inactive -/

/-- CLR WDT acts: the watchdog is enabled and option 4 asks for one instruction (R273). -/
def State.clearsAtOnce (s : State) : Prop := s.opt.wdtEn = true ∧ s.opt.clrWdtTimes = .one

/-- CLR WDT1 and CLR WDT2 act: the watchdog is enabled and option 4 asks for both (R274, R275). -/
def State.clearsByPair (s : State) : Prop := s.opt.wdtEn = true ∧ s.opt.clrWdtTimes = .two

/-- The state after the second instruction of the pair: the watchdog and both records clear (R274). -/
def State.pairCleared (s : State) : State := { clearWdt s with wdt1Done := false, wdt2Done := false }

theorem not_clearsAtOnce_of_two {s : State} (htwo : s.opt.clrWdtTimes = .two) : ¬ s.clearsAtOnce :=
  fun ⟨_, hone⟩ => nomatch hone.symm.trans htwo

theorem not_clearsByPair_of_one {s : State} (hone : s.opt.clrWdtTimes = .one) : ¬ s.clearsByPair :=
  fun ⟨_, htwo⟩ => nomatch hone.symm.trans htwo

theorem not_clears_of_disabled {s : State} (hdis : s.opt.wdtEn = false) : ¬ s.clearsAtOnce ∧ ¬ s.clearsByPair :=
  ⟨fun ⟨hen, _⟩ => Bool.eq_false_iff.mp hdis hen, fun ⟨hen, _⟩ => Bool.eq_false_iff.mp hdis hen⟩

theorem execClrWdt_active {s : State} (h : s.clearsAtOnce) : execClrWdt s = .next (clearWdt (fetched s)) :=
  if_pos h

theorem execClrWdt_inactive {s : State} (h : ¬ s.clearsAtOnce) : execClrWdt s = .next (s.goOn 1) :=
  if_neg h

theorem execClrWdt1_inactive {s : State} (h : ¬ s.clearsByPair) : execClrWdt1 s = .next (s.goOn 1) :=
  if_neg h

theorem execClrWdt2_inactive {s : State} (h : ¬ s.clearsByPair) : execClrWdt2 s = .next (s.goOn 1) :=
  if_neg h

/-- CLR WDT1 clears when CLR WDT2 has been executed (R274). -/
theorem execClrWdt1_completes {s : State} (h : s.clearsByPair) (hother : s.wdt2Done = true) :
    execClrWdt1 s = .next (fetched s).pairCleared :=
  (if_pos h).trans (if_pos hother)

/-- CLR WDT1 only records itself while CLR WDT2 has not been executed (R274). -/
theorem execClrWdt1_records {s : State} (h : s.clearsByPair) (hother : s.wdt2Done = false) :
    execClrWdt1 s = .next { fetched s with wdt1Done := true } :=
  (if_pos h).trans (if_neg (Bool.eq_false_iff.mp hother))

/-- CLR WDT2 clears when CLR WDT1 has been executed (R275). -/
theorem execClrWdt2_completes {s : State} (h : s.clearsByPair) (hother : s.wdt1Done = true) :
    execClrWdt2 s = .next (fetched s).pairCleared :=
  (if_pos h).trans (if_pos hother)

/-- CLR WDT2 only records itself while CLR WDT1 has not been executed (R275). -/
theorem execClrWdt2_records {s : State} (h : s.clearsByPair) (hother : s.wdt1Done = false) :
    execClrWdt2 s = .next { fetched s with wdt2Done := true } :=
  (if_pos h).trans (if_neg (Bool.eq_false_iff.mp hother))

/-- Settles O26: by the option that selects the active instructions, and for the pair by the other one's record. -/
theorem clearWatchdogInstructions : Obligations.ClearWatchdogInstructions := by
  intro s
  refine ⟨rfl, rfl, rfl, fun hen hone => ?_, fun hen htwo => ?_, fun hdis => ?_⟩
  · have hpair := not_clearsByPair_of_one hone
    exact ⟨⟨_, execClrWdt_active ⟨hen, hone⟩, rfl⟩, execClrWdt1_inactive hpair, execClrWdt2_inactive hpair⟩
  · have hpair : s.clearsByPair := ⟨hen, htwo⟩
    exact ⟨execClrWdt_inactive (not_clearsAtOnce_of_two htwo),
      fun h2 => ⟨_, execClrWdt1_completes hpair h2, rfl⟩, execClrWdt1_records hpair,
      fun h1 => ⟨_, execClrWdt2_completes hpair h1, rfl⟩, execClrWdt2_records hpair⟩
  · obtain ⟨honce, hpair⟩ := not_clears_of_disabled hdis
    exact ⟨execClrWdt_inactive honce, execClrWdt1_inactive hpair, execClrWdt2_inactive hpair⟩

/-! ## The pair -/

theorem pairCleared_clears (s : State) :
    s.pairCleared.wdtCnt = 0 ∧ s.pairCleared.tof = false ∧ s.pairCleared.pdf = false ∧
      s.pairCleared.wdt1Done = false ∧ s.pairCleared.wdt2Done = false :=
  ⟨rfl, rfl, rfl, rfl, rfl⟩

/-- Settles O27: after the first instruction the options are the same and its record is set, so the other one completes
the pair; its own repetition finds the other's record clear and records itself again (D19). -/
theorem preclearPairClears : Obligations.PreclearPairClears := by
  intro s hen htwo h1 h2
  have hpair : s.clearsByPair := ⟨hen, htwo⟩
  have hpair1 : ({ fetched s with wdt1Done := true } : State).clearsByPair := hpair
  have hpair2 : ({ fetched s with wdt2Done := true } : State).clearsByPair := hpair
  refine ⟨_, _, _, _, _, _, execClrWdt1_records hpair h2, execClrWdt2_records hpair h1,
    execClrWdt2_completes hpair1 rfl, execClrWdt1_completes hpair2 rfl,
    execClrWdt1_records hpair1 h2, execClrWdt2_records hpair2 h1, ?_, ?_, rfl, h2, h1, rfl⟩
  · rintro t (rfl | rfl) <;> exact pairCleared_clears _
  · rintro t (rfl | rfl) <;> exact ⟨rfl, rfl, rfl⟩

end Sys2Proof.Machine
end

section
/-! PROOF. The levels of the port pads: NMOS pins by the constraints of R361, CMOS outputs by their latch or the shared
functions of R362 and R344. -/

namespace Sys2Proof.Machine

variable {s : State} {fl : Byte} {i : Nat}

/-! ## NMOS pins -/

theorem nmosPad_low (driven level pull fl : Bool) : nmosPad false driven level pull fl = false := rfl

theorem nmosPad_driven (level pull fl : Bool) : nmosPad true true level pull fl = level := rfl

theorem nmosPad_pulled (level fl : Bool) : nmosPad true false level true fl = true := rfl

theorem nmosPad_floating (level fl : Bool) : nmosPad true false level false fl = fl := rfl

/-- PA4 to PA7 always, and PA0 to PA3 where option 9 says so, are NMOS pins (R360). -/
theorem paPad_of_nmos (h : 4 ≤ i ∨ s.opt.paLowCmos = false) : s.paPad fl i =
    nmosPad (s.paLatch.getLsbD i) (s.paDriven.getLsbD i) (s.paLevel.getLsbD i) (decide (4 ≤ i) || s.opt.pullHigh)
      (fl.getLsbD i) := by
  have hcmos : s.paCmos i = false := by
    obtain hi | hc := h
    · simp only [State.paCmos, Nat.not_lt.mpr hi, decide_false, Bool.false_and]
    · simp only [State.paCmos, hc, Bool.and_false]
  simp only [State.paPad, hcmos, Bool.false_eq_true, if_false]

theorem pcPad_of_nmos (h : s.opt.pcCmos = false) : s.pcPad fl i =
    nmosPad (s.pcLatch.getLsbD i) (s.pcDriven.getLsbD i) (s.pcLevel.getLsbD i) s.opt.pullHigh (fl.getLsbD i) := by
  simp only [State.pcPad, h, Bool.false_eq_true, if_false]

/-! ## CMOS outputs -/

theorem paPad_of_cmos (hi : i < 4) (h : s.opt.paLowCmos = true) : s.paPad fl i = s.paCmosPad fl i := by
  simp only [State.paPad, State.paCmos, hi, h, decide_true, Bool.and_self, if_true]

/-- A CMOS output without a shared function follows its latch (R361). -/
theorem paCmosPad_latch (hbz : s.opt.pa01Bz = false ∨ 2 ≤ i) (hpfd : s.opt.pa3Pfd = false ∨ i ≠ 3) :
    s.paCmosPad fl i = s.paLatch.getLsbD i := by
  have h1 : ¬ (s.opt.pa01Bz = true ∧ i < 2) := by
    rintro ⟨hon, hi⟩
    obtain h | h := hbz
    · rw [hon] at h; cases h
    · omega
  have h3 : ¬ (s.opt.pa3Pfd = true ∧ i = 3) := by
    rintro ⟨hon, rfl⟩
    obtain h | h := hpfd
    · rw [hon] at h; cases h
    · exact h rfl
  simp only [State.paCmosPad, h1, h3, if_false]

theorem paCmosPad_buzzer (hbz : s.opt.pa01Bz = true) (hi : i < 2) : s.paCmosPad fl i = s.buzzerPad i := if_pos ⟨hbz, hi⟩

theorem paCmosPad_pfd (hpfd : s.opt.pa3Pfd = true) : s.paCmosPad fl 3 = s.pfdPad (fl.getLsbD 3) := by
  have h1 : ¬ (s.opt.pa01Bz = true ∧ 3 < 2) := fun h => absurd h.2 (by decide)
  simp only [State.paCmosPad, h1, hpfd, if_false, if_true, and_self]

/-- R362's table. -/
theorem buzzerPad_table (s : State) :
    (s.paLatch.getLsbD 0 = true → s.buzzerPad 0 = false ∧ s.buzzerPad 1 = false) ∧
    (s.paLatch.getLsbD 0 = false → s.buzzerPad 0 = s.buzzer) ∧
    (s.paLatch.getLsbD 0 = false → s.paLatch.getLsbD 1 = true → s.buzzerPad 1 = false) ∧
    (s.paLatch.getLsbD 0 = false → s.paLatch.getLsbD 1 = false → s.buzzerPad 1 = !s.buzzer) := by
  refine ⟨fun h => ?_, fun h => ?_, fun h h1 => ?_, fun h h1 => ?_⟩
  · simp only [State.buzzerPad, h, if_true, and_self]
  · simp only [State.buzzerPad, h, Bool.false_eq_true, if_false, if_true]
  · simp only [State.buzzerPad, h, h1, Bool.false_eq_true, if_false, if_true, one_ne_zero]
  · simp only [State.buzzerPad, h, h1, Bool.false_eq_true, if_false, one_ne_zero]

/-- R344's table. -/
theorem pfdPad_table (s : State) (fl : Bool) :
    (s.paLatch.getLsbD 3 = true → s.pfdPad fl = false) ∧
    (s.paLatch.getLsbD 3 = false → s.pfdTimerOn = true → s.pfdPad fl = s.pfdFF) ∧
    (s.paLatch.getLsbD 3 = false → s.pfdTimerOn = false → s.pfdPad fl = fl) := by
  refine ⟨fun h => ?_, fun h hon => ?_, fun h hon => ?_⟩
  · simp only [State.pfdPad, h, if_true]
  · simp only [State.pfdPad, h, hon, Bool.false_eq_true, if_false, if_true]
  · simp only [State.pfdPad, h, hon, Bool.false_eq_true, if_false]

/-- Settles O33: each pin is NMOS or CMOS by its options, and then the table of its kind. -/
theorem padLevels : Obligations.PadLevels := by
  intro s fl i _
  refine ⟨fun hnmos => ?_, fun hi hcmos hbz hpfd => ?_, fun _ => ⟨fun hnmos => ?_, fun hcmos => ?_⟩,
    fun hbz hcmos => ?_, fun hpfd hcmos => ?_⟩
  · rw [paPad_of_nmos hnmos]
    refine ⟨fun hl => ?_, fun hl hd => ?_, fun hl hd hp => ?_, fun hl hd hi hp => ?_⟩
    · rw [hl, nmosPad_low]
    · rw [hl, hd, nmosPad_driven]
    · have hpull : (decide (4 ≤ i) || s.opt.pullHigh) = true := by simpa using hp
      rw [hl, hd, hpull, nmosPad_pulled]
    · have hpull : (decide (4 ≤ i) || s.opt.pullHigh) = false := by simpa using ⟨hi, hp⟩
      rw [hl, hd, hpull, nmosPad_floating]
  · rw [paPad_of_cmos hi hcmos, paCmosPad_latch hbz hpfd]
  · rw [pcPad_of_nmos hnmos]
    refine ⟨fun hl => ?_, fun hl hd => ?_, fun hl hd hp => ?_, fun hl hd hp => ?_⟩
    · rw [hl, nmosPad_low]
    · rw [hl, hd, nmosPad_driven]
    · rw [hl, hd, hp, nmosPad_pulled]
    · rw [hl, hd, hp, nmosPad_floating]
  · simp only [State.pcPad, hcmos, if_true]
  · rw [paPad_of_cmos (by decide) hcmos, paPad_of_cmos (by decide) hcmos, paCmosPad_buzzer hbz (by decide),
      paCmosPad_buzzer hbz (by decide)]
    exact buzzerPad_table s
  · rw [paPad_of_cmos (by decide) hcmos, paCmosPad_pfd hpfd]
    exact pfdPad_table s _

end Sys2Proof.Machine
end

section
/-! PROOF. HALT: which requests an event can make, what a step can do in HALT, said once, and from it what leaves HALT
and what HALT keeps. -/

namespace Sys2Proof.Machine

variable {s t u v : State} {l l' : List Source} {e : Event} {rest : List Event}

/-! ## The requests that the units make -/

/-- Between `s` and `u` the units raised request flags only, those of the sources `l` that were able to set theirs. -/
structure RaisesWithin (l : List Source) (s u : State) : Prop where
  raises : OnlyRaises s u
  within : ∀ x, s.req.get x = false → u.req.get x = true → x ∈ l ∧ s.ableToSet x = true

/-- What is able to set its flag after other requests was able to before them. -/
theorem OnlyRaises.ableToSet {x : Source} (h : OnlyRaises s u) (hu : u.ableToSet x = true) : s.ableToSet x = true := by
  have hreq : u.req.get x = false → s.req.get x = false := fun hx =>
    Bool.eq_false_iff.mpr fun hs => Bool.eq_false_iff.mp hx (h.keepsRequests x hs)
  simp only [State.ableToSet, Bool.and_eq_true, Bool.not_eq_true'] at hu ⊢
  refine ⟨hreq hu.1, ?_⟩
  cases x
  case t0 => exact h.timer0On hu.2
  case t1 => exact h.timer1On hu.2
  all_goals rfl

theorem RaisesWithin.quiet (h : OnlyRaises s u) (hreq : u.req = s.req) : RaisesWithin l s u :=
  ⟨h, fun x h0 h1 => by rw [hreq, h0] at h1; cases h1⟩

theorem RaisesWithin.refl (s : State) : RaisesWithin l s s := .quiet (.refl s) rfl

theorem RaisesWithin.trans (h : RaisesWithin l s u) (k : RaisesWithin l u v) : RaisesWithin l s v where
  raises := h.raises.trans k.raises
  within x h0 h1 := by
    cases hx : u.req.get x
    · obtain ⟨hmem, hable⟩ := k.within x hx h1
      exact ⟨hmem, h.raises.ableToSet hable⟩
    · exact h.within x h0 hx

theorem RaisesWithin.mono (h : RaisesWithin l s u) (hl : l ⊆ l') : RaisesWithin l' s u :=
  ⟨h.raises, fun x h0 h1 => (h.within x h0 h1).imp_left (hl ·)⟩

theorem RaisesWithin.ite {c : Prop} [Decidable c] (h : RaisesWithin l s u) (k : RaisesWithin l s v) :
    RaisesWithin l s (if c then u else v) := by
  split
  · exact h
  · exact k

/-- A timer's source is able to set its flag while its timer is on, the others always (R333). -/
theorem raise_within (src : Source) (s : State) (h0 : src = .t0 → s.t0.ton = true) (h1 : src = .t1 → s.t1.ton = true) :
    RaisesWithin [src] s (raise src s) where
  raises := raise_onlyRaises src s
  within x hx hr := by
    obtain rfl : x = src := by
      by_contra hne
      rw [raise] at hr
      split at hr
      · rw [hx] at hr; cases hr
      · rw [show _ = s.req.get x from SourceBits.get_put_other s.req true src x hne, hx] at hr; cases hr
    refine ⟨List.mem_singleton.mpr rfl, ?_⟩
    cases x
    case t0 => simp only [State.ableToSet, hx, h0 rfl, Bool.not_false, Bool.and_self]
    case t1 => simp only [State.ableToSet, hx, h1 rfl, Bool.not_false, Bool.and_self]
    all_goals simp only [State.ableToSet, hx, Bool.not_false, Bool.and_self]

theorem Timer.ton_of_overflow {x : Timer} (h : x.countEvent.2 = true) : x.ton = true := by
  by_contra hoff
  rw [Timer.countEvent_off (Bool.eq_false_iff.mpr hoff)] at h
  cases h

theorem togglePfd_within (p : Config.PfdSrc) (s : State) : RaisesWithin l s (togglePfd p s) :=
  .ite (.quiet (.quiet rfl rfl id id rfl) rfl) (.refl s)

theorem togglePfd_timers (p : Config.PfdSrc) (s : State) :
    (togglePfd p s).t0 = s.t0 ∧ (togglePfd p s).t1 = s.t1 := by
  unfold togglePfd
  split <;> exact ⟨rfl, rfl⟩

theorem countTimer1_within (s : State) : RaisesWithin [.t1] s (countTimer1 s) := by
  have h0 : RaisesWithin [.t1] s { s with t1 := s.t1.countEvent.1 } :=
    .quiet (.quiet rfl rfl id (by simp) rfl) rfl
  unfold countTimer1
  dsimp only
  split
  · next hover =>
    refine (h0.trans (togglePfd_within .pfd1 _)).trans (raise_within .t1 _ nofun fun _ => ?_)
    rw [(togglePfd_timers _ _).2]
    simpa using Timer.ton_of_overflow hover
  · exact h0

theorem clockTimer1_within (s : State) : RaisesWithin [.t1] s (clockTimer1 s) := (countTimer1_within s).ite (.refl s)

theorem tickTimer1_within (c : Config.T1Clk) (s : State) : RaisesWithin [.t1] s (tickTimer1 c s) :=
  (clockTimer1_within s).ite (.refl s)

theorem tickTimer1Div4_within (s : State) : RaisesWithin [.t1] s (tickTimer1Div4 s) :=
  (clockTimer1_within s).ite (.refl s)

/-- Timer 0 can reach timer 1 by the cascade (R345). -/
theorem countTimer0_within (s : State) : RaisesWithin [.t0, .t1] s (countTimer0 s) := by
  have h0 : RaisesWithin [.t0, .t1] s { s with t0 := s.t0.countEvent.1 } :=
    .quiet (.quiet rfl rfl (by simp) id rfl) rfl
  unfold countTimer0
  dsimp only
  split
  · next hover =>
    have hraise := raise_within .t0 (togglePfd .pfd0 { s with t0 := s.t0.countEvent.1 })
      (fun _ => by rw [(togglePfd_timers _ _).1]; simpa using Timer.ton_of_overflow hover) nofun
    exact ((h0.trans (togglePfd_within .pfd0 _)).trans (hraise.mono (by simp))).trans
      ((tickTimer1_within _ _).mono (by simp))
  · exact h0

theorem clockTimer0_within (s : State) : RaisesWithin [.t0, .t1] s (clockTimer0 s) :=
  (countTimer0_within s).ite (.refl s)

theorem tickTimer0_within (c : Config.T0Clk) (s : State) : RaisesWithin [.t0, .t1] s (tickTimer0 c s) :=
  (clockTimer0_within s).ite (.refl s)

theorem tickTimeBase_within (s : State) : RaisesWithin [.tb, .t1] s (tickTimeBase s) := by
  have h0 : RaisesWithin [.tb, .t1] s { s with tbCnt := 0 } := .quiet (.quiet rfl rfl id id rfl) rfl
  exact .ite ((h0.trans ((raise_within .tb _ nofun nofun).mono (by simp))).trans
    ((tickTimer1_within .tbOvf _).mono (by simp))) (.quiet (.quiet rfl rfl id id rfl) rfl)

theorem tickRtc_within (s : State) : RaisesWithin [.rtc, .t0, .t1] s (tickRtc s) := by
  have h0 : RaisesWithin [.rtc, .t0, .t1] s { s with rtcCnt := 0 } := .quiet (.quiet rfl rfl id id rfl) rfl
  have h := h0.trans ((raise_within .rtc _ nofun nofun).mono (by simp))
  exact .ite (h.trans (.ite (.refl _) ((clockTimer0_within _).mono (by simp))))
    (.quiet (.quiet rfl rfl id id rfl) rfl)

theorem tickBuzzer_within (s : State) : RaisesWithin l s (tickBuzzer s) := .quiet (tickBuzzer_clock s).raises rfl

theorem fsChains_within (s : State) : RaisesWithin [.t0, .t1, .tb, .rtc] s (fsChains s) :=
  (((tickTimeBase_within s).mono (by simp)).trans ((tickRtc_within _).mono (by simp))).trans
    (tickBuzzer_within _)

theorem sysTimers_within (s : State) : RaisesWithin [.t0, .t1] s (sysTimers s) := by
  have h0 : RaisesWithin [.t0, .t1] s { s with tPhase := s.tPhase + 1 } := .quiet (.quiet rfl rfl id id rfl) rfl
  exact (h0.trans (tickTimer0_within _ _)).trans ((tickTimer1_within _ _).mono (by simp))

theorem div4Timers_within (s : State) : RaisesWithin [.t0, .t1] s (div4Timers s) :=
  (tickTimer0_within _ s).trans ((tickTimer1Div4_within _).mono (by simp))

theorem externalPin_within (src : Source) (a b : Bool) (s : State) (h : src = .int0 ∨ src = .int1) :
    RaisesWithin [src] s (externalPin src a b s) := by
  refine .ite (raise_within src s ?_ ?_) (.refl s) <;> rintro rfl <;> simp at h

theorem timer0Pin_within (a b : Bool) (s : State) : RaisesWithin [.t0, .t1] s (timer0Pin a b s) := by
  have h0 : RaisesWithin [.t0, .t1] s { s with t0 := (s.t0.pinEdge b).1 } :=
    .quiet (.quiet rfl rfl (s.t0.pinEdge_ton b) id rfl) rfl
  exact .ite (.refl s) (.ite (h0.trans (countTimer0_within _)) h0)

theorem timer1Pin_within (a b : Bool) (s : State) : RaisesWithin [.t1] s (timer1Pin a b s) := by
  have h0 : RaisesWithin [.t1] s { s with t1 := (s.t1.pinEdge b).1 } :=
    .quiet (.quiet rfl rfl id (s.t1.pinEdge_ton b) rfl) rfl
  exact .ite (.refl s) (.ite (h0.trans (countTimer1_within _)) h0)

theorem drivePads_within (a b c : Byte) (d f : BitVec 4) (s : State) :
    RaisesWithin [.int0, .int1, .t0, .t1] s (drivePads a b c d f s) := by
  have h0 : RaisesWithin [.int0, .int1, .t0, .t1] s
      { s with paDriven := a, paLevel := b, pb := c, pcDriven := d, pcLevel := f } :=
    .quiet (.quiet rfl rfl id id rfl) rfl
  exact (((h0.trans ((externalPin_within .int0 (s.pb.getLsbD 0) (c.getLsbD 0) _ (.inl rfl)).mono (by simp))).trans
    ((externalPin_within .int1 (s.pb.getLsbD 1) (c.getLsbD 1) _ (.inr rfl)).mono (by simp))).trans
    ((timer0Pin_within (s.pb.getLsbD 2) (c.getLsbD 2) _).mono (by simp))).trans
    ((timer1Pin_within (s.pb.getLsbD 3) (c.getLsbD 3) _).mono (by simp))

/-! ## What a step can do in HALT -/

/-- What HALT keeps: the core's registers, the enable bits, the control registers, the port latches, the memories and
the cycle count (R320). -/
def State.coreView (s : State) :=
  (s.pc, s.stk, s.acc, s.mp0, s.mp1, s.bp, s.tblp, s.tblh, s.flags, s.tof, s.pdf, s.emi, s.en, s.rt, s.lvdc, s.qosc,
    s.paLatch, s.pcLatch, s.ram, s.lcd, s.cycles)

theorem UnitEffect.coreView (h : UnitEffect s u) : u.coreView = s.coreView := by
  rw [h]
  rfl

/-- What the units leave in HALT: the core as it was, the script, and raised requests of the sources `l` only. -/
structure UnitsInHalt (l : List Source) (s u : State) : Prop where
  core : u.coreView = s.coreView
  env : u.env = s.env
  raises : RaisesWithin l s u

theorem UnitsInHalt.of_clock (h : UnitEffect s u) (hr : RaisesWithin l s u) : UnitsInHalt l s u :=
  ⟨h.coreView, by rw [h], hr⟩

/-- What a step can do in HALT that takes the event `e` off the script and goes on from `s` to `t`. -/
inductive HaltStep (e : Event) (s : State) : State → Prop
  | rest (low : Bool) : s.resetBy e = false → HaltStep e s { s with vddLow := low }
  | units (u : State) : s.resetBy e = false → UnitsInHalt (s.sourcesOf e) s u → HaltStep e s (wakeByPads s u)
  | timeOut (u : State) : s.opt.wdtEn = true → s.wdtCnt = 0xFFFF → HaltStep e s (warmReset u)
  | reset (t : State) : s.resetBy e = true → t.halted = false → HaltStep e s t

theorem resetBy_cases (h : s.resetBy e = true) : e = .res ∨ (∃ x, e = .powerOn x) ∨
    ∃ x o p, e = .lowVoltage x o p ∧ s.opt.lvrEn = true := by
  cases e
  case res => exact .inl rfl
  case powerOn x => exact .inr (.inl ⟨x, rfl⟩)
  case lowVoltage x o p => exact .inr (.inr ⟨x, o, p, rfl, h⟩)
  all_goals cases h

/-- The watchdog's cycle in HALT: a count, or the warm reset (R347, R406). -/
theorem HaltStep.of_watchdog (hhalt : s.halted = true) (hreset : s.resetBy e = false) (hu : ClockEffect s u)
    (hr : RaisesWithin (s.sourcesOf e) s u) : HaltStep e s (wakeByPads s (tickWatchdog s.halted u)) := by
  have hopt : u.opt = s.opt := hu.raises.sameOptions
  have hcnt : u.wdtCnt = s.wdtCnt := by rw [hu.unit]
  obtain ⟨-, h⟩ | ⟨-, -, h⟩ | ⟨hen, hfull, h⟩ := tickWatchdog_cases s.halted u
  · rw [h]
    exact .units u hreset (.of_clock hu.unit hr)
  · rw [h]
    exact .units _ hreset ⟨hu.unit.coreView, by rw [hu.unit],
      hr.trans (.quiet (.quiet rfl rfl id id rfl) rfl)⟩
  · rw [h, wdtTimeOut_of_halted (by exact hhalt), wakeByPads_running rfl]
    exact .timeOut _ (hopt ▸ hen) (hcnt ▸ BitVec.eq_of_toNat_eq (Nat.succ.inj hfull))

/-- Where the system clock stands its cycle does nothing (R320, R327). -/
theorem sysTick_of_stopped (h : s.sysClockRuns = false) : sysTick s = s := by
  simp only [sysTick, h, Bool.not_false, if_true]

theorem sysTick_of_phase_ne (hruns : s.sysClockRuns = true) (h : s.tPhase ≠ 3) : sysTick s = sysTimers s := by
  simp only [sysTick, hruns, h, Bool.not_true, Bool.false_eq_true, if_false, sysTimers]

/-- Every fourth cycle is one of system clock/4, at the timers alone where fs has its own oscillator (R331, log 26). -/
theorem sysTick_of_phase3_timers (hruns : s.sysClockRuns = true) (hphase : s.tPhase = 3)
    (hclk : s.opt.wdtClk ≠ .sysDiv4) : sysTick s = div4Timers (sysTimers s) := by
  have hopt : (sysTimers s).opt = s.opt := (sysTimers_clock s).raises.sameOptions
  calc
    sysTick s = div4Tick s.halted (sysTimers s) := by
      simp only [sysTick, hruns, hphase, Bool.not_true, Bool.false_eq_true, if_false, if_true, sysTimers]
    _ = div4Timers (sysTimers s) := if_neg (by rw [hopt]; exact hclk)

/-- One cycle of the system clock raises requests of its own sources only (R331, R346). -/
theorem sysTick_within (s : State) :
    ∃ u, ClockEffect s u ∧ RaisesWithin (s.sourcesOf .sysClock) s u ∧
      (sysTick s = u ∨ sysTick s = tickWatchdog s.halted u) := by
  cases hruns : s.sysClockRuns with
  | false => exact ⟨s, .refl s, .refl s, .inl (sysTick_of_stopped hruns)⟩
  | true =>
    have h := sysTimers_clock s
    have h4 := h.trans (div4Timers_clock _)
    have hr := sysTimers_within s
    have hr4 := hr.trans (div4Timers_within _)
    have hmono : [Source.t0, .t1] ⊆ s.sourcesOf .sysClock := by
      simp only [State.sourcesOf, hruns, if_true]
      split <;> simp
    by_cases hphase : s.tPhase = 3
    · by_cases hclk : s.opt.wdtClk = .sysDiv4
      · have hall : s.sourcesOf .sysClock = [.t0, .t1, .tb, .rtc] := by
          simp only [State.sourcesOf, hruns, hclk, if_true]
        exact ⟨_, h4.trans (fsChains_clock _), (hr4.mono hmono).trans (hall ▸ fsChains_within _),
          .inr (sysTick_of_phase3 hruns hphase hclk)⟩
      · exact ⟨_, h4, hr4.mono hmono, .inl (sysTick_of_phase3_timers hruns hphase hclk)⟩
    · exact ⟨_, h, hr.mono hmono, .inl (sysTick_of_phase_ne hruns hphase)⟩

/-- One cycle of its clock at one unit in HALT. -/
theorem HaltStep.of_unit (c : ClockedUnit) (hhalt : s.halted = true) :
    HaltStep (.unit c) s (wakeByPads s (unitTick c s)) := by
  have still : HaltStep (.unit c) s (wakeByPads s s) := .units s rfl (.of_clock (.refl s) (.refl s))
  cases c <;> simp only [unitTick] <;> split
  case timer0.isTrue h =>
    have hruns : s.sysClockRuns = true := (Bool.and_eq_true _ _ ▸ h).1
    exact .units _ rfl (.of_clock (clockTimer0_effect s) (by
      simpa only [State.sourcesOf, hruns, if_true] using clockTimer0_within s))
  case timer1.isTrue h =>
    have hruns : s.sysClockRuns = true := (Bool.and_eq_true _ _ ▸ h).1
    exact .units _ rfl (.of_clock (clockTimer1_effect s) (by
      simpa only [State.sourcesOf, hruns, if_true] using clockTimer1_within s))
  case timeBase.isTrue h =>
    exact .units _ rfl (.of_clock (tickTimeBase_effect s) (by
      simpa only [State.sourcesOf, h, if_true] using tickTimeBase_within s))
  case rtc.isTrue h =>
    exact .units _ rfl (.of_clock (tickRtc_effect s) (by
      simpa only [State.sourcesOf, h, if_true] using tickRtc_within s))
  case buzzer.isTrue =>
    exact .units _ rfl (.of_clock (tickBuzzer_effect s) (tickBuzzer_within s))
  case watchdog.isTrue => exact .of_watchdog hhalt rfl (.refl s) (.refl s)
  all_goals exact still

/-- The core does nothing in HALT (R320). -/
theorem coreStep_of_halted {enc : Encoding} (h : s.halted = true) : coreStep enc s = .next s := if_pos h

/-- What an event can do in HALT. -/
theorem HaltStep.of_eventStep (hhalt : s.halted = true) (h : eventStep decode e s = .next t) : HaltStep e s t := by
  have still {e : Event} (he : s.resetBy e = false) : HaltStep e s s := .rest s.vddLow he
  obtain ⟨rfl, -, rfl⟩ | ⟨rfl, hrun, -⟩ | ⟨rfl, hcore⟩ | ⟨c, rfl, rfl⟩ | ⟨rfl, rfl⟩ | ⟨rfl, -, rfl⟩ | ⟨rfl, hclk, rfl⟩ |
    ⟨a, b, c, d, f, rfl, rfl⟩ | ⟨low, rfl, rfl⟩ | ⟨rfl, rfl⟩ | ⟨x, rfl, rfl⟩ | ⟨x, o, p, rfl, rfl⟩ := eventStep_next h
  · exact still rfl
  · rw [hhalt] at hrun; cases hrun
  · rw [coreStep_of_halted hhalt] at hcore
    cases hcore
    exact still rfl
  · exact .of_unit c hhalt
  · obtain ⟨u, hu, hr, ht | ht⟩ := sysTick_within s
    · rw [ht]
      exact .units u rfl (.of_clock hu.unit hr)
    · rw [ht]
      exact .of_watchdog hhalt rfl hu hr
  · exact still rfl
  · have hall : s.sourcesOf .fsCycle = [.t0, .t1, .tb, .rtc] := if_neg hclk
    exact .of_watchdog hhalt rfl (fsChains_clock s) (hall ▸ fsChains_within s)
  · have hunit := drivePads_effect a b c d f s
    exact .units _ rfl ⟨hunit.coreView, by rw [hunit], drivePads_within a b c d f s⟩
  · exact .rest low rfl
  · exact .reset _ rfl (by rw [resReset_eq]; rfl)
  · exact .reset _ rfl rfl
  · cases hen : s.opt.lvrEn
    · rw [lowVoltageReset_of_disabled hen]
      exact still hen
    · rw [lowVoltageReset_of_enabled hen]
      exact .reset _ hen rfl

/-- In HALT a step without an event to come leaves the state as it is (log 19); one with an event is a `HaltStep`. -/
theorem halted_step_cases (hhalt : s.halted = true) (h : step s = .next t) :
    (s.env = [] ∧ t = s) ∨ ∃ e rest, s.env = e :: rest ∧ HaltStep e { s with env := rest } t := by
  obtain ⟨henv, h⟩ | ⟨e, rest, henv, h⟩ := step_next h
  · rw [coreStep_of_halted hhalt] at h
    cases h
    exact .inl ⟨henv, rfl⟩
  · exact .inr ⟨e, rest, henv, .of_eventStep hhalt h⟩

/-! ## What leaves HALT -/

/-- Port A wake-up leaves every pad and every request flag as it is. -/
theorem wakeByPads_paPad (s u : State) (fl : Byte) (i : Nat) : (wakeByPads s u).paPad fl i = u.paPad fl i := by
  rw [wakeByPads_eq]
  rfl

theorem wakeByPads_paLevel (s u : State) : (wakeByPads s u).paLevel = u.paLevel := by rw [wakeByPads_eq]

theorem wakeByPads_req (s u : State) : (wakeByPads s u).req = u.req := by rw [wakeByPads_eq]

/-- It leaves HALT exactly where a wake-up pad falls, or where HALT was left before. -/
theorem wakeByPads_halted_iff (s u : State) :
    (wakeByPads s u).halted = false ↔ paFalls s u = true ∨ u.halted = false := by
  obtain ⟨hf, h⟩ | ⟨hf, h⟩ := wakeByPads_cases s u
  · rw [h, hf]
    simp
  · rw [h, hf]
    simp

/-- The pad of the wake-up bit `i` falls between the two states (R322). -/
def wakePadFalls (i : Nat) (s t : State) : Prop :=
  i < 8 ∧ s.opt.paWake.getLsbD i = true ∧ s.paPad s.paLevel i = true ∧ t.paPad t.paLevel i = false

theorem wakePadFalls_iff (s u : State) : (∃ i, wakePadFalls i s (wakeByPads s u)) ↔ paFalls s u = true := by
  simp only [paFalls_iff, wakePadFalls, wakeByPads_paPad, wakeByPads_paLevel]

/-- Why HALT ends (R321). -/
theorem HaltStep.exit (h : HaltStep e s t) (hhalt : s.halted = true) (ht : t.halted = false) :
    s.resetBy e = true ∨ (∃ x, s.req.get x = false ∧ t.req.get x = true) ∨ (∃ i, wakePadFalls i s t) ∨
      (s.opt.wdtEn = true ∧ s.wdtCnt = 0xFFFF ∧ t.tof = true ∧ t.pc = 0 ∧ t.stk = []) := by
  cases h with
  | rest low _ => exact absurd (hhalt.symm.trans ht) Bool.noConfusion
  | units u _ hu =>
    obtain hf | hrun := (wakeByPads_halted_iff s u).mp ht
    · exact .inr (.inr (.inl ((wakePadFalls_iff s u).mpr hf)))
    · rw [wakeByPads_req]
      obtain hs | hx := hu.raises.raises.wakesByRequest hrun
      · exact absurd (hhalt.symm.trans hs) Bool.noConfusion
      · exact .inr (.inl hx)
  | timeOut u hen hcnt => exact .inr (.inr (.inr ⟨hen, hcnt, rfl, rfl, rfl⟩))
  | reset _ he _ => exact .inl he

/-- A new request ends HALT (R323). -/
theorem HaltStep.running_of_request {x : Source} (h : HaltStep e s t) (h0 : s.req.get x = false)
    (h1 : t.req.get x = true) : t.halted = false := by
  cases h with
  | rest low _ => exact absurd (h0.symm.trans h1) Bool.noConfusion
  | units u _ hu =>
    rw [wakeByPads_req] at h1
    exact (wakeByPads_halted_iff s u).mpr (.inr (hu.raises.raises.newRequestWakes x h0 h1))
  | timeOut u _ _ => rfl
  | reset _ _ ht => exact ht

/-- A falling wake-up pad ends HALT (R322). -/
theorem HaltStep.running_of_pad {i : Nat} (h : HaltStep e s t) (hf : wakePadFalls i s t) : t.halted = false := by
  cases h with
  | rest low _ =>
    obtain ⟨-, -, hhigh, hlow⟩ := hf
    exact absurd (hhigh.symm.trans hlow) Bool.noConfusion
  | units u _ _ => exact (wakeByPads_halted_iff s u).mpr (.inl ((wakePadFalls_iff s u).mp ⟨i, hf⟩))
  | timeOut u _ _ => rfl
  | reset _ _ ht => exact ht

/-- An NMOS pin driven low is low, whatever its latch holds (R361). -/
theorem paPad_nmos_driven_low {fl : Byte} {i : Nat} (hnmos : 4 ≤ i ∨ s.opt.paLowCmos = false)
    (hdriven : s.paDriven.getLsbD i = true) (hlow : s.paLevel.getLsbD i = false) : s.paPad fl i = false := by
  rw [paPad_of_nmos hnmos, hdriven, hlow]
  cases s.paLatch.getLsbD i
  · rfl
  · rfl

/-- Driving the NMOS pin of a wake-up bit from high to low ends HALT (R322). -/
theorem step_pads_wakes {a b c : Byte} {d f : BitVec 4} {i : Nat} (henv : s.env = .pads a b c d f :: rest) (hi : i < 8)
    (hwake : s.opt.paWake.getLsbD i = true) (hnmos : 4 ≤ i ∨ s.opt.paLowCmos = false)
    (hhigh : s.paPad s.paLevel i = true) (hdriven : a.getLsbD i = true) (hlow : b.getLsbD i = false) :
    ∃ t, step s = .next t ∧ t.halted = false := by
  have hunit := drivePads_effect a b c d f { s with env := rest }
  generalize hu : drivePads a b c d f { s with env := rest } = u at hunit
  have hstep : step s = .next (wakeByPads { s with env := rest } u) := by
    simp only [step, nextStep, henv, eventStep, hu]
  have hfall : paFalls { s with env := rest } u = true :=
    (paFalls_iff _ _).mpr ⟨i, hi, hwake, hhigh, by
      rw [hunit]
      exact paPad_nmos_driven_low hnmos hdriven hlow⟩
  exact ⟨_, hstep, (wakeByPads_halted_iff _ u).mpr (.inl hfall)⟩

/-- Settles O49: the exits and their converses are read off the cases of a step in HALT. -/
theorem onlyListedEventsLeaveHalt : Obligations.OnlyListedEventsLeaveHalt := by
  refine ⟨fun s t hhalt h ht => ?_, fun s t x hhalt h h0 h1 => ?_, fun s t i hhalt h hi hwake hhigh hlow => ?_,
    fun s a b c d f rest i _ henv hi => step_pads_wakes henv hi⟩
  · obtain ⟨-, rfl⟩ | ⟨e, rest, henv, h⟩ := halted_step_cases hhalt h
    · exact absurd (hhalt.symm.trans ht) Bool.noConfusion
    · simp only [henv, List.head?_cons, Option.some.injEq]
      exact (h.exit hhalt ht).imp_left resetBy_cases
  · obtain ⟨-, rfl⟩ | ⟨e, rest, -, h⟩ := halted_step_cases hhalt h
    · exact absurd (h0.symm.trans h1) Bool.noConfusion
    · exact h.running_of_request h0 h1
  · obtain ⟨-, rfl⟩ | ⟨e, rest, -, h⟩ := halted_step_cases hhalt h
    · exact absurd (hhigh.symm.trans hlow) Bool.noConfusion
    · exact h.running_of_pad ⟨hi, hwake, hhigh, hlow⟩

/-! ## What HALT keeps -/

theorem coreView_eq_iff (s t : State) : t.coreView = s.coreView ↔
    t.pc = s.pc ∧ t.stk = s.stk ∧ t.acc = s.acc ∧ t.mp0 = s.mp0 ∧ t.mp1 = s.mp1 ∧ t.bp = s.bp ∧
      t.tblp = s.tblp ∧ t.tblh = s.tblh ∧ t.flags = s.flags ∧ t.tof = s.tof ∧ t.pdf = s.pdf ∧ t.emi = s.emi ∧
      t.en = s.en ∧ t.rt = s.rt ∧ t.lvdc = s.lvdc ∧ t.qosc = s.qosc ∧ t.paLatch = s.paLatch ∧
      t.pcLatch = s.pcLatch ∧ t.ram = s.ram ∧ t.lcd = s.lcd ∧ t.cycles = s.cycles := by
  simp only [State.coreView, Prod.mk.injEq]

theorem HaltStep.coreView (h : HaltStep e s t) (ht : t.halted = true) : t.coreView = s.coreView := by
  cases h with
  | rest low _ => rfl
  | units u _ hu =>
    rw [wakeByPads_eq]
    exact hu.core
  | timeOut u _ _ => cases ht
  | reset _ _ hrun => exact absurd (ht.symm.trans hrun) Bool.noConfusion

/-- No event of the script resets the chip or finds a source able to set its flag. -/
def State.nothingToCome (s : State) (l : List Event) : Prop :=
  ∀ e ∈ l, s.resetBy e = false ∧ ∀ x ∈ s.sourcesOf e, s.ableToSet x = false

theorem haltedForGood_iff (s : State) : s.haltedForGood = true ↔
    s.halted = true ∧ s.opt.wdtEn = false ∧ s.opt.paWake = 0 ∧ s.nothingToCome s.env := by
  simp [State.haltedForGood, State.nothingToCome, and_assoc]

/-- What was not to come does not come by what the units do in HALT: they turn no timer on and clear no flag. -/
theorem State.nothingToCome.mono {l : List Event} (h : s.nothingToCome l) (hu : OnlyRaises s u)
    (hhalt : u.halted = s.halted) : u.nothingToCome l := by
  intro e he
  obtain ⟨hreset, hable⟩ := h e he
  have hresetBy : u.resetBy e = s.resetBy e := by
    cases e <;> simp only [State.resetBy, State.lvrEnabled, hu.sameOptions]
  have hruns : u.sysClockRuns = s.sysClockRuns := by rw [State.sysClockRuns, State.sysClockRuns, hu.sameOptions, hhalt]
  have hsources : u.sourcesOf e = s.sourcesOf e := by
    unfold State.sourcesOf State.fsRuns
    rw [hruns, hu.sameOptions]
  refine ⟨hresetBy.trans hreset, fun x hx => Bool.eq_false_iff.mpr fun hux => ?_⟩
  rw [hsources] at hx
  exact Bool.eq_false_iff.mp (hable x hx) (hu.ableToSet hux)

/-- Without a wake-up bit no pad ends HALT. -/
theorem wakeByPads_of_noWakeBits (h : s.opt.paWake = 0) : wakeByPads s u = u := by
  have hf : paFalls s u = false := by simp [paFalls, h]
  simp [wakeByPads, hf]

/-- A HALT that nothing to come can leave lasts (R430). -/
theorem HaltStep.lasts (h : HaltStep e s t) (hhalt : s.halted = true) (hwdt : s.opt.wdtEn = false)
    (hwake : s.opt.paWake = 0) (hcome : s.nothingToCome (e :: s.env)) : t.haltedForGood = true := by
  obtain ⟨⟨hreset, hable⟩, hrest⟩ := List.forall_mem_cons.mp hcome
  cases h with
  | rest low _ => exact (haltedForGood_iff _).mpr ⟨hhalt, hwdt, hwake, hrest⟩
  | units u _ hu =>
    have hraises := hu.raises.raises
    have hu_halt : u.halted = true := by
      refine Bool.eq_true_of_not_eq_false fun hrun => ?_
      obtain hs | ⟨x, h0, h1⟩ := hraises.wakesByRequest hrun
      · exact absurd (hhalt.symm.trans hs) Bool.noConfusion
      · obtain ⟨hx, hset⟩ := hu.raises.within x h0 h1
        exact absurd (hset.symm.trans (hable x hx)) Bool.noConfusion
    rw [wakeByPads_of_noWakeBits hwake, haltedForGood_iff, hraises.sameOptions, hu.env]
    exact ⟨hu_halt, hwdt, hwake, State.nothingToCome.mono hrest hraises (hu_halt.trans hhalt.symm)⟩
  | timeOut u hen _ => exact absurd (hen.symm.trans hwdt) Bool.noConfusion
  | reset _ he _ => exact absurd (he.symm.trans hreset) Bool.noConfusion

/-- Settles O50: each case of a step in HALT keeps the core, and a HALT for good. -/
theorem haltKeepsTheCore : Obligations.HaltKeepsTheCore := by
  intro s t hhalt h
  obtain ⟨henv, rfl⟩ | ⟨e, rest, henv, h⟩ := halted_step_cases hhalt h
  · exact ⟨id, fun _ => rfl, fun _ => (coreView_eq_iff _ _).mp rfl⟩
  · refine ⟨fun hgood => ?_, fun hnil => ?_, fun ht => (coreView_eq_iff _ _).mp (h.coreView ht)⟩
    · obtain ⟨-, hwdt, hwake, hcome⟩ := (haltedForGood_iff s).mp hgood
      rw [henv] at hcome
      exact h.lasts hhalt hwdt hwake hcome
    · rw [henv] at hnil; cases hnil

end Sys2Proof.Machine
end

section
/-! PROOF. Interrupts: which source is acknowledged, its entry and the return from it, and what clears a request
flag. -/

namespace Sys2Proof.Machine

variable {s t u : State} {src : Source}

/-! ## The source acknowledged -/

/-- The source of the smallest priority number among those requested and enabled (R302, R312, R314). -/
theorem find?_requests_eq_some (hreq : s.requests src = true)
    (hfirst : ∀ x : Source, x.priority < src.priority → s.requests x = false) :
    Source.all.find? s.requests = some src := by
  cases src <;> simp_all [Source.all, Source.priority]

theorem find?_requests_eq_none (h : ∀ x, s.requests x = false) : Source.all.find? s.requests = none :=
  List.find?_eq_none.mpr fun x _ => by simp [h x]

theorem requests_eq_true_iff (s : State) (x : Source) :
    s.requests x = true ↔ s.en.get x = true ∧ s.req.get x = true := by
  simp only [State.requests, Bool.and_eq_true]

theorem stackFull_eq_false_iff (s : State) : s.stackFull = false ↔ s.stk.length < 6 := by
  simp only [State.stackFull, decide_eq_false_iff_not, Nat.not_le]

theorem pending_of_free (hemi : s.emi = true) (hstk : s.stk.length < 6) :
    s.pending = Source.all.find? s.requests := by
  simp only [State.pending, hemi, (stackFull_eq_false_iff s).mpr hstk, Bool.not_false, Bool.and_self, if_true]

/-- No interrupt is acknowledged with EMI = 0, a full stack, or no source requested and enabled (R310). -/
theorem pending_eq_none (h : s.emi = false ∨ 6 ≤ s.stk.length ∨ ∀ x, s.requests x = false) : s.pending = none := by
  obtain hemi | hstk | hreq := h
  · simp only [State.pending, hemi, Bool.false_and, Bool.false_eq_true, if_false]
  · have hfull : s.stackFull = true := decide_eq_true hstk
    simp only [State.pending, hfull, Bool.not_true, Bool.and_false, Bool.false_eq_true, if_false]
  · simp only [State.pending, find?_requests_eq_none hreq, ite_self]

/-! ## The entry and the return -/

/-- With a free level the entry loses no return address (R29, R313). -/
theorem enterInterrupt_of_free (src : Source) (h : s.stk.length < 6) : enterInterrupt src s =
    { s with stk := s.pc :: s.stk, req := s.req.put false src, emi := false, pc := src.vector } := by
  have hstk : s.stk.take 5 = s.stk := List.take_of_length_le (by omega)
  simp only [enterInterrupt, pushPc, hstk]

theorem SourceBits.get_put (b : SourceBits) (v : Bool) (x y : Source) :
    (b.put v x).get y = if y = x then v else b.get y := by
  split
  · next h => rw [h, SourceBits.get_put_same]
  · next h => exact SourceBits.get_put_other b v x y h

/-- The core's own step, with an empty script or at a `core` event. -/
theorem step_eq_coreStep (h : (s.env = [] ∧ u = s) ∨ ∃ rest, s.env = .core :: rest ∧ u = { s with env := rest }) :
    step s = coreStep decode u := by
  obtain ⟨henv, rfl⟩ | ⟨rest, henv, rfl⟩ := h
  · simp only [step, nextStep, henv]
  · simp only [step, nextStep, henv, eventStep]

/-- The step of a running core is the entry of the pending source, else an instruction (R310, R311). -/
theorem coreStep_of_pending (hrun : s.halted = false) (h : s.pending = some src) :
    coreStep decode s = .next (enterInterrupt src s) := by
  simp only [coreStep, hrun, h, Bool.false_eq_true, if_false]

theorem coreStep_of_no_pending (hrun : s.halted = false) (h : s.pending = none) :
    coreStep decode s = runInstr decode s := by
  simp only [coreStep, hrun, h, Bool.false_eq_true, if_false]

/-- The acknowledged source is the one that `find?` meets first, and its entry is `enterInterrupt` (R310, R313). -/
theorem coreStep_acknowledges (hrun : s.halted = false) (hemi : s.emi = true) (hstk : s.stk.length < 6)
    (hreq : s.requests src = true) (hfirst : ∀ x : Source, x.priority < src.priority → s.requests x = false) :
    coreStep decode s = .next
      { s with stk := s.pc :: s.stk, req := s.req.put false src, emi := false, pc := src.vector } := by
  have hpending : s.pending = some src := (pending_of_free hemi hstk).trans (find?_requests_eq_some hreq hfirst)
  rw [coreStep_of_pending hrun hpending, enterInterrupt_of_free src hstk]

/-- Settles O46: the entry is that of `coreStep_acknowledges`, with the event taken off. -/
theorem interruptIsAcknowledgedAndEntered : Obligations.InterruptIsAcknowledgedAndEntered := by
  refine ⟨⟨rfl, rfl, rfl, rfl, rfl, rfl⟩, fun s u hrun hcore => ?_⟩
  have hnot {x : Source} (h : ¬ (s.en.get x = true ∧ s.req.get x = true)) : s.requests x = false :=
    Bool.eq_false_iff.mpr (mt (requests_eq_true_iff s x).mp h)
  obtain ⟨l, rfl⟩ : ∃ l, u = { s with env := l } := by
    obtain ⟨-, rfl⟩ | ⟨rest, -, rfl⟩ := hcore
    · exact ⟨_, rfl⟩
    · exact ⟨rest, rfl⟩
  rw [step_eq_coreStep hcore]
  refine ⟨fun src hemi hstk hen hreq hfirst => ⟨s.req.put false src, fun x => SourceBits.get_put _ _ _ x, ?_⟩,
    fun h => coreStep_of_no_pending hrun (pending_eq_none (s := { s with env := l }) ?_)⟩
  · exact coreStep_acknowledges (s := { s with env := l }) hrun hemi hstk
      ((requests_eq_true_iff s src).mpr ⟨hen, hreq⟩) fun x hx => hnot (hfirst x hx)
  · exact h.imp_right (Or.imp_right fun hnone x => hnot (hnone x))

/-- Settles O47: the return pops the address that the entry pushed. -/
theorem returnFromInterruptRestoresOnlyThePc : Obligations.ReturnFromInterruptRestoresOnlyThePc := by
  intro src s hstk
  rw [enterInterrupt_of_free src hstk]
  exact ⟨rfl, rfl⟩

/-! ## What clears a request flag -/

/-- An instruction clears request flags by a store to INTC0 or INTC1 only (R91). -/
theorem exec_req {i : Instr} (h : exec i s = .next t) (h0 : storeTarget i s ≠ some (.data 0x0B))
    (h1 : storeTarget i s ≠ some (.data 0x1E)) : t.req = s.req := by
  have hregs := exec_regs h
  obtain ⟨-, -, -, hint0, hint1, ht0⟩ := hregs.intc0 h0
  obtain ⟨-, -, -, ht1, htb, hrtc⟩ := hregs.intc1 h1
  cases ht : t.req
  cases hs : s.req
  simp_all

/-- What takes the flag of `src` from 1 to 0 in a step that takes `e` off the script (R303). -/
def ClearsRequest (src : Source) (e : Option Event) (s t : State) : Prop :=
  ((e = none ∨ e = some .core) ∧ s.halted = false ∧ s.pending = some src) ∨
  ((e = none ∨ e = some .run ∨ e = some .core) ∧ s.halted = false ∧
    ∃ w i, fetchWord s = some w ∧ decode w = .ok i ∧
      (storeTarget i s = some (.data 0x0B) ∨ storeTarget i s = some (.data 0x1E))) ∨
  (e = some .res ∨ (∃ x, e = some (.powerOn x)) ∨ ∃ x o p, e = some (.lowVoltage x o p)) ∨
  (s.halted = false ∧ s.opt.wdtEn = true ∧ s.wdtCnt = 0xFFFF ∧ t.tof = true ∧ t.pc = 0)

/-- The watchdog's cycle clears a flag by its chip reset only: not in HALT (log 15). -/
theorem tickWatchdog_req (b : Bool) (s : State) : (tickWatchdog b s).req = s.req ∨
    (b = false ∧ s.opt.wdtEn = true ∧ s.wdtCnt = 0xFFFF ∧ (tickWatchdog b s).tof = true ∧
      (tickWatchdog b s).pc = 0) := by
  obtain ⟨-, h⟩ | ⟨-, -, h⟩ | ⟨hen, hfull, h⟩ := tickWatchdog_cases b s
  · exact .inl (by rw [h])
  · exact .inl (by rw [h])
  · cases b
    · rw [wdtTimeOut_of_running rfl] at h
      rw [h]
      exact .inr ⟨rfl, hen, BitVec.eq_of_toNat_eq (Nat.succ.inj hfull), rfl, rfl⟩
    · rw [wdtTimeOut_of_halted rfl] at h
      exact .inl (by rw [h]; rfl)

theorem StepEffect.keeps_request {e : Option Event} (h : StepEffect e s t) (hs : s.req.get src = true) :
    t.req.get src = true ∨ ClearsRequest src e s t := by
  cases h with
  | idle => exact .inl hs
  | enter x he hrun hpending =>
    by_cases hx : src = x
    · exact .inr (.inl ⟨he, hrun, hx ▸ hpending⟩)
    · exact .inl ((SourceBits.get_put_other s.req false x src hx).trans hs)
  | instr w i u he hrun hw hi hu =>
    by_cases htarget : storeTarget i s = some (.data 0x0B) ∨ storeTarget i s = some (.data 0x1E)
    · exact .inr (.inr (.inl ⟨he, hrun, w, i, hw, hi, htarget⟩))
    · obtain ⟨h0, h1⟩ := not_or.mp htarget
      have hreq : u.req = s.req := exec_req (s := settled s) hu h0 h1
      rw [clocked_cases]
      exact .inl (hreq ▸ hs)
  | clock u hu =>
    rw [wakeByPads_eq]
    exact .inl (hu.raises.keepsRequests src hs)
  | watchdog u _ hu =>
    have hkeeps := hu.raises.keepsRequests src hs
    have hopt : u.opt = s.opt := hu.raises.sameOptions
    have hcnt : u.wdtCnt = s.wdtCnt := by rw [hu.unit]
    rw [wakeByPads_eq]
    obtain hreq | ⟨hrun, hen, hfull, htof, hpc⟩ := tickWatchdog_req s.halted u
    · exact .inl ((congrArg (SourceBits.get · src) hreq).trans hkeeps)
    · exact .inr (.inr (.inr (.inr ⟨hrun, hopt ▸ hen, hcnt ▸ hfull, htof, hpc⟩)))
  | pads a b c d f _ =>
    rw [wakeByPads_eq]
    exact .inl ((drivePads_onlyRaises a b c d f s).keepsRequests src hs)
  | supply low _ => exact .inl hs
  | res he => exact .inr (.inr (.inr (.inl (.inl he))))
  | powerOn x he => exact .inr (.inr (.inr (.inl (.inr (.inl ⟨x, he⟩)))))
  | lowVoltage x o p he => exact .inr (.inr (.inr (.inl (.inr (.inr ⟨x, o, p, he⟩)))))

/-- Settles O48: of the cases of a step, those that do not keep the flag are the listed ones. -/
theorem requestFlagsStayUntilServedOrCleared : Obligations.RequestFlagsStayUntilServedOrCleared := by
  intro s t src h hs ht
  have hclears := ((step_effect h).keeps_request hs).resolve_left (by simp [ht])
  rw [← List.head?_eq_none_iff]
  exact hclears

end Sys2Proof.Machine
end

section
/-! PROOF. The timers: their count events, in equations, the period, and the phases of a pulse width measurement. -/

namespace Sys2Proof.Machine

variable {s t u : State}

/-! ## Requests and the PFD flip-flop -/

/-- A request sets the flag, and ends HALT where it was 0 (R303, R323). -/
theorem raise_eq (src : Source) (s : State) :
    raise src s = { s with req := s.req.put true src, halted := s.halted && s.req.get src } := by
  unfold raise
  split
  · next h =>
    have hput : s.req.put true src = s.req := by
      cases src <;> cases hr : s.req <;> simp_all [SourceBits.get, SourceBits.put]
    rw [hput, h, Bool.and_true]
  · next h => rw [Bool.eq_false_iff.mpr h, Bool.and_false]

theorem togglePfd_eq (p : Config.PfdSrc) (s : State) :
    togglePfd p s = { s with pfdFF := if s.opt.pfdSrc = p then !s.pfdFF else s.pfdFF } := by
  unfold togglePfd
  split <;> rfl

/-! ## A count event of a timer -/

theorem Timer.countEvent_lost {x : Timer} (h : x.ton = true) (hb : x.blk = true) :
    x.countEvent = ({ x with blk := false }, false) := by
  simp only [Timer.countEvent, h, hb, Bool.not_true, Bool.false_eq_true, if_false, if_true]

theorem Timer.countEvent_below {x : Timer} (h : x.ton = true) (hb : x.blk = false) (hc : x.cnt ≠ 0xFF) :
    x.countEvent = ({ x with cnt := x.cnt + 1 }, false) := (Timer.countEvent_on h hb).trans (if_neg hc)

theorem Timer.countEvent_overflow {x : Timer} (h : x.ton = true) (hb : x.blk = false) (hc : x.cnt = 0xFF) :
    x.countEvent = ({ x with cnt := x.pre }, true) := (Timer.countEvent_on h hb).trans (if_pos hc)

theorem ofNat8_ne_FF {n : Nat} (h : n < 255) : BitVec.ofNat 8 n ≠ 0xFF#8 := by
  intro heq
  have := congrArg BitVec.toNat heq
  simp only [BitVec.toNat_ofNat] at this
  omega

/-- From the preload, fewer than 256 - N count events count up (R333). -/
theorem Timer.countEvents_below {x : Timer} (hon : x.ton = true) (hb : x.blk = false) (hc : x.cnt = x.pre) :
    ∀ k, k < 256 - x.pre.toNat → x.countEvents k = ({ x with cnt := BitVec.ofNat 8 (x.pre.toNat + k) }, 0)
  | 0, _ => by
    have hcnt : BitVec.ofNat 8 (x.pre.toNat + 0) = x.cnt := (eq_ofNat_of_toNat (congrArg BitVec.toNat hc)).symm
    rw [hcnt]
    rfl
  | k + 1, hk => by
    have ih := Timer.countEvents_below hon hb hc k (by omega)
    have hevent := Timer.countEvent_below (x := { x with cnt := BitVec.ofNat 8 (x.pre.toNat + k) }) hon hb
      (ofNat8_ne_FF (by omega))
    have hnext : BitVec.ofNat 8 (x.pre.toNat + k) + 1 = BitVec.ofNat 8 (x.pre.toNat + (k + 1)) := by
      rw [← Nat.add_assoc, BitVec.ofNat_add (x.pre.toNat + k)]
      rfl
    simp only [Timer.countEvents, ih, hevent, hnext, Bool.toNat_false, Nat.add_zero]

/-- Settles O54: after 255 - N count events the counter holds FFH, and the next one reloads it. -/
theorem timerPeriodIs256MinusPreload : Obligations.TimerPeriodIs256MinusPreload := by
  intro x k hon hb hc
  refine ⟨Timer.countEvents_below hon hb hc k, fun hk => ?_⟩
  have hpre := x.pre.isLt
  obtain rfl : k = 255 - x.pre.toNat + 1 := by omega
  have hlast := Timer.countEvents_below hon hb hc (255 - x.pre.toNat) (by omega)
  have hfull : BitVec.ofNat 8 (x.pre.toNat + (255 - x.pre.toNat)) = 0xFF#8 := by
    rw [Nat.add_sub_cancel' (by omega)]
  rw [hfull] at hlast
  have hevent := Timer.countEvent_overflow (x := { x with cnt := 0xFF#8 }) hon hb rfl
  have hback : { x with cnt := x.pre } = x := congrArg (fun c => { x with cnt := c }) hc.symm
  simp only [Timer.countEvents, hlast, hevent, hback, Bool.toNat_true, Nat.zero_add]

/-! ## A count event at the machine -/

theorem countTimer1_of_no_overflow (h : s.t1.countEvent.2 = false) :
    countTimer1 s = { s with t1 := s.t1.countEvent.1 } := by
  simp only [countTimer1, h, Bool.false_eq_true, if_false]

theorem countTimer0_of_no_overflow (h : s.t0.countEvent.2 = false) :
    countTimer0 s = { s with t0 := s.t0.countEvent.1 } := by
  simp only [countTimer0, h, Bool.false_eq_true, if_false]

theorem countTimer1_off (h : s.t1.ton = false) : countTimer1 s = s := by
  have he := Timer.countEvent_off h
  rw [countTimer1_of_no_overflow (by rw [he]), he]

theorem countTimer0_off (h : s.t0.ton = false) : countTimer0 s = s := by
  have he := Timer.countEvent_off h
  rw [countTimer0_of_no_overflow (by rw [he]), he]

theorem countTimer1_lost (h : s.t1.ton = true) (hb : s.t1.blk = true) :
    countTimer1 s = { s with t1 := { s.t1 with blk := false } } := by
  have he := Timer.countEvent_lost h hb
  rw [countTimer1_of_no_overflow (by rw [he]), he]

theorem countTimer0_lost (h : s.t0.ton = true) (hb : s.t0.blk = true) :
    countTimer0 s = { s with t0 := { s.t0 with blk := false } } := by
  have he := Timer.countEvent_lost h hb
  rw [countTimer0_of_no_overflow (by rw [he]), he]

theorem countTimer1_below (h : s.t1.ton = true) (hb : s.t1.blk = false) (hc : s.t1.cnt ≠ 0xFF) :
    countTimer1 s = { s with t1 := { s.t1 with cnt := s.t1.cnt + 1 } } := by
  have he := Timer.countEvent_below h hb hc
  rw [countTimer1_of_no_overflow (by rw [he]), he]

theorem countTimer0_below (h : s.t0.ton = true) (hb : s.t0.blk = false) (hc : s.t0.cnt ≠ 0xFF) :
    countTimer0 s = { s with t0 := { s.t0 with cnt := s.t0.cnt + 1 } } := by
  have he := Timer.countEvent_below h hb hc
  rw [countTimer0_of_no_overflow (by rw [he]), he]

/-- The overflow of timer 1: reload, request, PFD flip-flop (R333, R344). -/
def State.overflow1 (s : State) : State :=
  { s with
    t1 := { s.t1 with cnt := s.t1.pre }
    req := { s.req with t1 := true }
    halted := s.halted && s.req.t1
    pfdFF := if s.opt.pfdSrc = .pfd1 then !s.pfdFF else s.pfdFF }

/-- The overflow of timer 0 without what it does to timer 1 (R333, R344). -/
def State.overflow0 (s : State) : State :=
  { s with
    t0 := { s.t0 with cnt := s.t0.pre }
    req := { s.req with t0 := true }
    halted := s.halted && s.req.t0
    pfdFF := if s.opt.pfdSrc = .pfd0 then !s.pfdFF else s.pfdFF }

theorem countTimer1_overflow (h : s.t1.ton = true) (hb : s.t1.blk = false) (hc : s.t1.cnt = 0xFF) :
    countTimer1 s = s.overflow1 := by
  simp only [countTimer1, Timer.countEvent_overflow h hb hc, if_true, togglePfd_eq, raise_eq]
  rfl

/-- The overflow of timer 0 is a cycle of timer 1's clock where timer 1 selects it (R345). -/
theorem countTimer0_overflow (h : s.t0.ton = true) (hb : s.t0.blk = false) (hc : s.t0.cnt = 0xFF) :
    countTimer0 s = tickTimer1 .tmr0Ovf s.overflow0 := by
  simp only [countTimer0, Timer.countEvent_overflow h hb hc, if_true, togglePfd_eq, raise_eq]
  rfl

/-! ## Internal clocks -/

theorem Timer.countsInternal_iff (x : Timer) :
    x.countsInternal = true ↔ x.tn1 = true ∧ (x.tn0 = false ∨ x.phase = .count) := by
  simp only [Timer.countsInternal, Bool.and_eq_true, Bool.or_eq_true, Bool.not_eq_true', decide_eq_true_eq]

theorem timer1Takes_iff (s : State) (c : Config.T1Clk) :
    s.timer1Takes c = true ↔ s.t1.tn2 = false ∧ s.opt.t1Clk = c := by
  simp only [State.timer1Takes, Bool.and_eq_true, Bool.not_eq_true', decide_eq_true_eq]

theorem timer0Takes_iff (s : State) (c : Config.T0Clk) :
    s.timer0Takes c = true ↔ s.t0.tn2 = true ∧ s.opt.t0Clk = c := by
  simp only [State.timer0Takes, Bool.and_eq_true, decide_eq_true_eq]

theorem tickTimer1_taken {c : Config.T1Clk} (h : s.timer1Takes c = true) (hc : s.t1.countsInternal = true) :
    tickTimer1 c s = countTimer1 s := by
  simp only [tickTimer1, clockTimer1, h, hc, if_true]

theorem tickTimer1_untaken {c : Config.T1Clk} (h : s.timer1Takes c = false ∨ s.t1.countsInternal = false) :
    tickTimer1 c s = s := by
  obtain h | h := h
  · simp only [tickTimer1, h, Bool.false_eq_true, if_false]
  · simp only [tickTimer1, clockTimer1, h, Bool.false_eq_true, if_false, ite_self]

/-- Timer 1 takes no cycle from an overflow of timer 0: another clock is selected, or its mode takes no internal clock
(R331, R345). -/
def State.noCascade (s : State) : Prop := s.timer1Takes .tmr0Ovf = false ∨ s.t1.countsInternal = false

theorem noCascade_of (h : s.opt.t1Clk ≠ .tmr0Ovf ∨ s.t1.tn2 = true ∨ s.t1.tn1 = false ∨
    (s.t1.tn0 = true ∧ s.t1.phase ≠ .count)) : s.noCascade := by
  unfold State.noCascade
  rw [← Bool.not_eq_true, ← Bool.not_eq_true, timer1Takes_iff, Timer.countsInternal_iff]
  obtain h | h | h | ⟨h, hp⟩ := h <;> simp_all

/-- Settles O55: the equations of the count events, the cascade by timer 1's clock selection. -/
theorem timerOverflowEffects : Obligations.TimerOverflowEffects := by
  intro s
  refine ⟨countTimer0_off, countTimer0_lost, countTimer0_below, ?_, countTimer1_off, countTimer1_lost,
    countTimer1_below, countTimer1_overflow⟩
  rintro o hon hb hc rfl
  rw [countTimer0_overflow hon hb hc]
  refine ⟨fun ⟨hclk, htn2, htn1, hphase⟩ => ?_, fun h => ?_⟩
  · exact tickTimer1_taken ((timer1Takes_iff s _).mpr ⟨htn2, hclk⟩) ((Timer.countsInternal_iff _).mpr ⟨htn1, hphase⟩)
  · exact tickTimer1_untaken (noCascade_of h)

/-! ## The phases of a pulse width measurement -/

/-- The timer waits for the start edge of a measurement, or counts in one (R338). -/
def Timer.measuring (x : Timer) (p : Phase) : Prop := x.ton = true ∧ x.tn0 = true ∧ x.tn1 = true ∧ x.phase = p

theorem Timer.measuring.pinEdge_wait {x : Timer} (h : x.measuring .wait) (rising : Bool) :
    x.pinEdge rising = (if rising = x.te then { x with phase := .count } else x, false) := by
  obtain ⟨hon, h0, h1, hp⟩ := h
  simp only [Timer.pinEdge, hon, h0, h1, hp, Bool.not_true, Bool.or_self, Bool.false_eq_true, if_false, if_true]
  split <;> rfl

theorem Timer.measuring.pinEdge_count {x : Timer} (h : x.measuring .count) (rising : Bool) :
    x.pinEdge rising = (if rising = x.te then x else { x with ton := false, phase := .done }, false) := by
  obtain ⟨hon, h0, h1, hp⟩ := h
  simp only [Timer.pinEdge, hon, h0, h1, hp, Bool.not_true, Bool.or_self, Bool.false_eq_true, if_false, if_true,
    reduceCtorEq]
  split <;> rfl

/-- In pulse width measurement the internal clock counts in phase COUNT alone (R338). -/
theorem Timer.countsInternal_of_tn0 {x : Timer} (h0 : x.tn0 = true) (h1 : x.tn1 = true) :
    x.countsInternal = decide (x.phase = .count) := by
  simp only [Timer.countsInternal, h0, h1, Bool.not_true, Bool.false_or, Bool.true_and]

/-- Setting TON in mode 11 waits for the start edge (R338). -/
theorem Timer.setControl_measuring {x : Timer} {v : Byte} (hoff : x.ton = false) (h4 : v.getLsbD 4 = true)
    (h6 : v.getLsbD 6 = true) (h7 : v.getLsbD 7 = true) : (x.setControl v).measuring .wait := by
  refine ⟨h4, h6, h7, ?_⟩
  simp only [Timer.setControl, h4, h6, h7, hoff, Bool.and_self, Bool.false_and, Bool.false_eq_true, if_true, if_false]

/-- Settles O57: the start edge of the waiting timer, then the opposite edge of the counting one. -/
theorem pulseWidthMeasurement : Obligations.PulseWidthMeasurement := by
  intro x v hoff h4 h6 h7
  have hwait := Timer.setControl_measuring hoff h4 h6 h7
  have hte : (x.setControl v).te = v.getLsbD 3 := rfl
  have hcnt : (x.setControl v).cnt = x.cnt := rfl
  generalize x.setControl v = w at *
  have ⟨hon, h0, h1, hp⟩ := hwait
  have hcount : Timer.measuring { w with phase := .count } .count := ⟨hon, h0, h1, rfl⟩
  have hstart : w.pinEdge (v.getLsbD 3) = ({ w with phase := .count }, false) := by
    rw [hwait.pinEdge_wait, hte, if_pos rfl]
  have hwrong : w.pinEdge (!v.getLsbD 3) = (w, false) := by
    rw [hwait.pinEdge_wait, hte, if_neg (by simp)]
  have hend : Timer.pinEdge { w with phase := .count } (!v.getLsbD 3) =
      ({ w with ton := false, phase := .done }, false) := by
    rw [hcount.pinEdge_count, if_neg (by simp [hte])]
  have hidle : w.countsInternal = false := by
    rw [Timer.countsInternal_of_tn0 h0 h1, hp]
    rfl
  simp only [hstart, hwrong, hend]
  exact ⟨hp, hidle, hcnt, trivial, trivial, Timer.countsInternal_of_tn0 h0 h1, trivial,
    Timer.countsInternal_of_tn0 h0 h1, trivial, trivial, trivial⟩

end Sys2Proof.Machine
end

section
/-! PROOF. The pins PB0 to PB3: what their edges do to the external requests and to the timers. -/

namespace Sys2Proof.Machine

variable {s t u v : State} {rest : List Event}

/-! ## What each timer can change -/

/-- What a count event of timer 1 can change: the timer, its request flag, HALT and the PFD flip-flop. -/
def Timer1Effect (s u : State) : Prop :=
  u = { s with t1 := u.t1, req := { s.req with t1 := u.req.t1 }, halted := u.halted, pfdFF := u.pfdFF }

/-- What a count event of timer 0 can change: by the cascade, timer 1 too. -/
def TimersEffect (s u : State) : Prop :=
  u = { s with
    t0 := u.t0
    t1 := u.t1
    req := { s.req with t0 := u.req.t0, t1 := u.req.t1 }
    halted := u.halted
    pfdFF := u.pfdFF }

theorem TimersEffect.refl (s : State) : TimersEffect s s := rfl

theorem Timer1Effect.timers (h : Timer1Effect s u) : TimersEffect s u := by
  unfold TimersEffect
  rw [h]

theorem TimersEffect.trans (h : TimersEffect s u) (k : TimersEffect u v) : TimersEffect s v := by
  unfold TimersEffect at *
  rw [h] at k
  exact k

theorem countTimer1_timer1 (s : State) : Timer1Effect s (countTimer1 s) := by
  unfold countTimer1
  dsimp only
  split
  · rw [raise_eq, togglePfd_eq]
    rfl
  · rfl

theorem clockTimer1_timer1 (s : State) : Timer1Effect s (clockTimer1 s) := by
  unfold clockTimer1
  split
  · exact countTimer1_timer1 s
  · rfl

theorem tickTimer1_timer1 (c : Config.T1Clk) (s : State) : Timer1Effect s (tickTimer1 c s) := by
  unfold tickTimer1
  split
  · exact clockTimer1_timer1 s
  · rfl

theorem countTimer0_timers (s : State) : TimersEffect s (countTimer0 s) := by
  unfold countTimer0
  dsimp only
  split
  · rw [raise_eq, togglePfd_eq]
    refine TimersEffect.trans ?_ (tickTimer1_timer1 _ _).timers
    rfl
  · rfl

theorem timer1Pin_timer1 (old new : Bool) (s : State) : Timer1Effect s (timer1Pin old new s) := by
  have hcount : Timer1Effect s (countTimer1 { s with t1 := (s.t1.pinEdge new).1 }) :=
    countTimer1_timer1 { s with t1 := (s.t1.pinEdge new).1 }
  unfold timer1Pin
  dsimp only
  repeat' split
  · rfl
  · exact hcount
  · rfl

theorem timer0Pin_timers (old new : Bool) (s : State) : TimersEffect s (timer0Pin old new s) := by
  have hcount : TimersEffect s (countTimer0 { s with t0 := (s.t0.pinEdge new).1 }) :=
    countTimer0_timers { s with t0 := (s.t0.pinEdge new).1 }
  unfold timer0Pin
  dsimp only
  repeat' split
  · rfl
  · exact hcount
  · rfl

theorem Timer1Effect.t0 (h : Timer1Effect s u) : u.t0 = s.t0 ∧ u.req.t0 = s.req.t0 := by
  rw [h]
  exact ⟨rfl, rfl⟩

/-! ## States that differ in HALT at most -/

/-- `u` is `s` but for HALT. The pins and the timers never look at HALT, they only end it (D26). -/
def SameButHalted (s u : State) : Prop := ∃ b, u = { s with halted := b }

theorem SameButHalted.trans (h : SameButHalted s u) (k : SameButHalted u v) : SameButHalted s v := by
  obtain ⟨_, rfl⟩ := h
  obtain ⟨b, rfl⟩ := k
  exact ⟨b, rfl⟩

theorem SameButHalted.eq (h : SameButHalted s u) : u = { s with halted := u.halted } := by
  obtain ⟨b, rfl⟩ := h
  rfl

theorem SameButHalted.raise (src : Source) (h : SameButHalted s u) : SameButHalted (raise src s) (raise src u) := by
  obtain ⟨b, rfl⟩ := h
  rw [raise_eq, raise_eq]
  exact ⟨_, rfl⟩

theorem SameButHalted.togglePfd (p : Config.PfdSrc) (h : SameButHalted s u) :
    SameButHalted (togglePfd p s) (togglePfd p u) := by
  obtain ⟨b, rfl⟩ := h
  rw [togglePfd_eq, togglePfd_eq]
  exact ⟨b, rfl⟩

theorem SameButHalted.countTimer1 (h : SameButHalted s u) : SameButHalted (countTimer1 s) (countTimer1 u) := by
  obtain ⟨b, rfl⟩ := h
  have h1 : SameButHalted { s with t1 := s.t1.countEvent.1 } { s with t1 := s.t1.countEvent.1, halted := b } :=
    ⟨b, rfl⟩
  unfold Machine.countTimer1
  dsimp only
  split
  · exact (h1.togglePfd .pfd1).raise .t1
  · exact h1

theorem SameButHalted.tickTimer1 (c : Config.T1Clk) (h : SameButHalted s u) :
    SameButHalted (tickTimer1 c s) (tickTimer1 c u) := by
  have hcount := h.countTimer1
  obtain ⟨b, rfl⟩ := h
  have htakes : State.timer1Takes { s with halted := b } c = s.timer1Takes c := rfl
  unfold Machine.tickTimer1 clockTimer1
  rw [htakes]
  dsimp only
  repeat' split
  · exact hcount
  · exact ⟨b, rfl⟩
  · exact ⟨b, rfl⟩

theorem SameButHalted.countTimer0 (h : SameButHalted s u) : SameButHalted (countTimer0 s) (countTimer0 u) := by
  obtain ⟨b, rfl⟩ := h
  have h0 : SameButHalted { s with t0 := s.t0.countEvent.1 } { s with t0 := s.t0.countEvent.1, halted := b } :=
    ⟨b, rfl⟩
  unfold Machine.countTimer0
  dsimp only
  split
  · exact ((h0.togglePfd .pfd0).raise .t0).tickTimer1 _
  · exact h0

theorem SameButHalted.timer0Pin (old new : Bool) (h : SameButHalted s u) :
    SameButHalted (timer0Pin old new s) (timer0Pin old new u) := by
  obtain ⟨b, rfl⟩ := h
  have h0 : SameButHalted { s with t0 := (s.t0.pinEdge new).1 } { s with t0 := (s.t0.pinEdge new).1, halted := b } :=
    ⟨b, rfl⟩
  unfold Machine.timer0Pin
  dsimp only
  repeat' split
  · exact ⟨b, rfl⟩
  · exact h0.countTimer0
  · exact h0

theorem SameButHalted.timer1Pin (old new : Bool) (h : SameButHalted s u) :
    SameButHalted (timer1Pin old new s) (timer1Pin old new u) := by
  obtain ⟨b, rfl⟩ := h
  have h1 : SameButHalted { s with t1 := (s.t1.pinEdge new).1 } { s with t1 := (s.t1.pinEdge new).1, halted := b } :=
    ⟨b, rfl⟩
  unfold Machine.timer1Pin
  dsimp only
  repeat' split
  · exact ⟨b, rfl⟩
  · exact h1.countTimer1
  · exact h1

/-! ## An edge of a timer's pin -/

/-- A timer that is off, or not in pulse width measurement, has no phase to go through. -/
theorem Timer.afterPin_of_not_measuring {x : Timer} (old new : Bool)
    (h : ¬ (x.ton = true ∧ x.tn1 = true ∧ x.tn0 = true)) : x.afterPin old new = x := by
  unfold Timer.afterPin
  split_ifs with h1 h2
  · obtain ⟨hon, htn1, htn0, -⟩ := h1
    exact absurd ⟨hon, htn1, htn0⟩ h
  · obtain ⟨hon, htn1, htn0, -⟩ := h2
    exact absurd ⟨hon, htn1, htn0⟩ h
  · rfl

theorem Timer.afterPin_self (x : Timer) (old : Bool) : x.afterPin old old = x := by
  unfold Timer.afterPin
  split_ifs with h1 h2
  · obtain ⟨-, -, -, -, h, h'⟩ := h1
    rw [h'] at h
    simp at h
  · obtain ⟨-, -, -, -, h, h'⟩ := h2
    rw [h] at h'
    simp at h'
  · rfl

/-- An edge on the pin of a measuring timer takes it through its phases (R338). -/
theorem Timer.measuring.pinEdge_eq_afterPin {x : Timer} {p : Phase} {old new : Bool} (h : x.measuring p)
    (hedge : old ≠ new) : x.pinEdge new = (x.afterPin old new, false) := by
  obtain rfl : old = !new := Bool.eq_not.mpr hedge
  cases p
  case wait =>
    obtain ⟨hon, h0, h1, hp⟩ := id h
    rw [h.pinEdge_wait]
    simp only [Timer.afterPin, hon, h0, h1, hp, true_and, false_and, reduceCtorEq, if_false, Bool.not_inj_iff, and_self]
  case count =>
    obtain ⟨hon, h0, h1, hp⟩ := id h
    rw [h.pinEdge_count]
    by_cases hte : new = x.te
    · simp [Timer.afterPin, hp, hte]
    · obtain rfl : new = !x.te := Bool.eq_not.mpr hte
      simp [Timer.afterPin, hon, h0, h1, hp]
  all_goals
    obtain ⟨hon, h0, h1, hp⟩ := h
    simp [Timer.pinEdge, Timer.afterPin, hon, h0, h1, hp]

/-- The active edge of a running timer in event count mode is a count event (R335). -/
theorem Timer.pinEdge_of_active {x : Timer} {old new : Bool} (hon : x.ton = true) (h : x.activeEdge old new) :
    x.pinEdge new = (x, true) := by
  obtain ⟨h1, h0, -, rfl⟩ := h
  simp [Timer.pinEdge, hon, h0, h1]

/-- Every other edge takes a measurement through its phases, or does nothing. -/
theorem Timer.pinEdge_of_passive {x : Timer} {old new : Bool} (hedge : old ≠ new) (h : ¬ x.activeEdge old new) :
    x.pinEdge new = (x.afterPin old new, false) := by
  by_cases hm : x.ton = true ∧ x.tn1 = true ∧ x.tn0 = true
  · obtain ⟨hon, h1, h0⟩ := hm
    exact Timer.measuring.pinEdge_eq_afterPin (p := x.phase) ⟨hon, h0, h1, rfl⟩ hedge
  · rw [Timer.afterPin_of_not_measuring old new hm]
    by_cases hpin : x.ton = true ∧ x.tn0 = true
    · obtain ⟨hon, h0⟩ := hpin
      have h1 : x.tn1 = false := Bool.eq_false_iff.mpr fun h1 => hm ⟨hon, h1, h0⟩
      have hte : new = x.te := by
        by_contra hne
        obtain rfl : new = !x.te := Bool.eq_not.mpr hne
        exact h ⟨h1, h0, by simpa using Bool.eq_not.mpr hedge, rfl⟩
      simp [Timer.pinEdge, hon, h0, h1, hte]
    · have hidle : (!x.ton || !x.tn0) = true := by simpa [Decidable.imp_iff_not_or] using hpin
      simp only [Timer.pinEdge, hidle, if_true]

theorem Timer.activeEdge.edge {x : Timer} {old new : Bool} (h : x.activeEdge old new) : old = x.te ∧ new = !x.te := by
  obtain ⟨-, -, hold, hnew⟩ := h
  exact ⟨hold, hnew⟩

theorem Timer.activeEdge.ne {x : Timer} {old new : Bool} (h : x.activeEdge old new) : old ≠ new := by
  obtain ⟨-, -, rfl, rfl⟩ := h
  simp

theorem timer0Pin_of_active {old new : Bool} (h : s.t0.activeEdge old new) : timer0Pin old new s = countTimer0 s := by
  unfold timer0Pin
  rw [if_neg h.ne]
  cases hon : s.t0.ton
  · have hoff : s.t0.pinEdge new = (s.t0, false) := by simp [Timer.pinEdge, hon]
    rw [hoff, countTimer0_off hon]
    rfl
  · rw [Timer.pinEdge_of_active hon h]
    rfl

theorem timer1Pin_of_active {old new : Bool} (h : s.t1.activeEdge old new) : timer1Pin old new s = countTimer1 s := by
  unfold timer1Pin
  rw [if_neg h.ne]
  cases hon : s.t1.ton
  · have hoff : s.t1.pinEdge new = (s.t1, false) := by simp [Timer.pinEdge, hon]
    rw [hoff, countTimer1_off hon]
    rfl
  · rw [Timer.pinEdge_of_active hon h]
    rfl

theorem timer0Pin_of_passive {old new : Bool} (h : ¬ s.t0.activeEdge old new) :
    timer0Pin old new s = { s with t0 := s.t0.afterPin old new } := by
  unfold timer0Pin
  split
  · next heq => rw [heq, Timer.afterPin_self]
  · next hne =>
    rw [Timer.pinEdge_of_passive hne h]
    rfl

theorem timer1Pin_of_passive {old new : Bool} (h : ¬ s.t1.activeEdge old new) :
    timer1Pin old new s = { s with t1 := s.t1.afterPin old new } := by
  unfold timer1Pin
  split
  · next heq => rw [heq, Timer.afterPin_self]
  · next hne =>
    rw [Timer.pinEdge_of_passive hne h]
    rfl

/-! ## The timers after their pins -/

theorem Timer.not_activeEdge_of_tn1 {x : Timer} {old new : Bool} (h1 : x.tn1 = true) : ¬ x.activeEdge old new :=
  fun h => Bool.noConfusion (h1.symm.trans h.1)

/-- In event count mode a counter below FFH goes up by one at the active edge and at no other (R335). -/
theorem timer0Pin_eventCount {old new : Bool} (hon : s.t0.ton = true) (hb : s.t0.blk = false) (h1 : s.t0.tn1 = false)
    (h0 : s.t0.tn0 = true) (hc : s.t0.cnt ≠ 0xFF) : (timer0Pin old new s).t0 =
      { s.t0 with cnt := if old = s.t0.te ∧ new = !s.t0.te then s.t0.cnt + 1 else s.t0.cnt } := by
  by_cases hedge : old = s.t0.te ∧ new = !s.t0.te
  · rw [timer0Pin_of_active ⟨h1, h0, hedge.1, hedge.2⟩, countTimer0_below hon hb hc, if_pos hedge]
  · rw [timer0Pin_of_passive (mt Timer.activeEdge.edge hedge), if_neg hedge]
    exact Timer.afterPin_of_not_measuring old new (by simp [h1])

theorem timer1Pin_eventCount {old new : Bool} (hon : s.t1.ton = true) (hb : s.t1.blk = false) (h1 : s.t1.tn1 = false)
    (h0 : s.t1.tn0 = true) (hc : s.t1.cnt ≠ 0xFF) : (timer1Pin old new s).t1 =
      { s.t1 with cnt := if old = s.t1.te ∧ new = !s.t1.te then s.t1.cnt + 1 else s.t1.cnt } := by
  by_cases hedge : old = s.t1.te ∧ new = !s.t1.te
  · rw [timer1Pin_of_active ⟨h1, h0, hedge.1, hedge.2⟩, countTimer1_below hon hb hc, if_pos hedge]
  · rw [timer1Pin_of_passive (mt Timer.activeEdge.edge hedge), if_neg hedge]
    exact Timer.afterPin_of_not_measuring old new (by simp [h1])

/-- At FFH the active edge reloads the counter and requests (R333). -/
theorem timer0Pin_overflow {old new : Bool} (hon : s.t0.ton = true) (hb : s.t0.blk = false) (hc : s.t0.cnt = 0xFF)
    (h : s.t0.activeEdge old new) :
    (timer0Pin old new s).t0 = { s.t0 with cnt := s.t0.pre } ∧ (timer0Pin old new s).req.t0 = true := by
  rw [timer0Pin_of_active h, countTimer0_overflow hon hb hc]
  exact (tickTimer1_timer1 _ s.overflow0).t0

theorem timer1Pin_overflow {old new : Bool} (hon : s.t1.ton = true) (hb : s.t1.blk = false) (hc : s.t1.cnt = 0xFF)
    (h : s.t1.activeEdge old new) :
    (timer1Pin old new s).t1 = { s.t1 with cnt := s.t1.pre } ∧ (timer1Pin old new s).req.t1 = true := by
  rw [timer1Pin_of_active h, countTimer1_overflow hon hb hc]
  exact ⟨rfl, rfl⟩

/-- In pulse width measurement the edges of the pin move the timer through its phases (R338). -/
theorem timer0Pin_measure {old new : Bool} (h1 : s.t0.tn1 = true) :
    (timer0Pin old new s).t0 = s.t0.afterPin old new ∧
      (old ≠ new → (timer0Pin old new s).t0 = (s.t0.pinEdge new).1) := by
  have hpassive := Timer.not_activeEdge_of_tn1 (old := old) (new := new) h1
  rw [timer0Pin_of_passive hpassive]
  exact ⟨rfl, fun hne => by rw [Timer.pinEdge_of_passive hne hpassive]⟩

theorem timer1Pin_measure {old new : Bool} (h1 : s.t1.tn1 = true) :
    (timer1Pin old new s).t1 = s.t1.afterPin old new ∧
      (old ≠ new → (timer1Pin old new s).t1 = (s.t1.pinEdge new).1) := by
  have hpassive := Timer.not_activeEdge_of_tn1 (old := old) (new := new) h1
  rw [timer1Pin_of_passive hpassive]
  exact ⟨rfl, fun hne => by rw [Timer.pinEdge_of_passive hne hpassive]⟩

/-- The pin of timer 0 reaches timer 1 by an overflow in cascade only (R345). -/
theorem timer0Pin_t1 {old new : Bool} (h : s.noCascade ∨ s.t0.cnt ≠ 0xFF) : (timer0Pin old new s).t1 = s.t1 := by
  by_cases hedge : s.t0.activeEdge old new
  · rw [timer0Pin_of_active hedge]
    cases hon : s.t0.ton
    · rw [countTimer0_off hon]
    · cases hb : s.t0.blk
      · by_cases hc : s.t0.cnt = 0xFF
        · rw [countTimer0_overflow hon hb hc,
            tickTimer1_untaken (s := s.overflow0) (h.resolve_right (not_not_intro hc))]
          rfl
        · rw [countTimer0_below hon hb hc]
      · rw [countTimer0_lost hon hb]
  · rw [timer0Pin_of_passive hedge]

/-! ## New pad levels -/

/-- The new levels and the external requests (R304, R363). -/
def State.withPads (s : State) (a b c : Byte) (d e : BitVec 4) : State :=
  { s with
    paDriven := a, paLevel := b, pb := c, pcDriven := d, pcLevel := e
    req := { s.req with
      int0 := s.req.int0 || (s.pb.getLsbD 0 && !c.getLsbD 0)
      int1 := s.req.int1 || (s.pb.getLsbD 1 && !c.getLsbD 1) } }

/-- A falling edge sets the external request, no other edge clears or sets it (R304). -/
theorem externalPin_same (src : Source) (old new : Bool) (s : State) :
    SameButHalted { s with req := s.req.put (s.req.get src || (old && !new)) src } (externalPin src old new s) := by
  unfold externalPin
  cases old && !new
  · refine ⟨s.halted, ?_⟩
    cases src <;> simp [SourceBits.put, SourceBits.get]
  · rw [Bool.or_true, if_pos rfl, raise_eq]
    exact ⟨_, rfl⟩

/-- All that new pad levels do, but to HALT: the levels and external requests, timer 0's pin, timer 1's pin (log 16). -/
theorem drivePads_same (a b c : Byte) (d e : BitVec 4) (s : State) :
    SameButHalted
      (timer1Pin (s.pb.getLsbD 3) (c.getLsbD 3)
        (timer0Pin (s.pb.getLsbD 2) (c.getLsbD 2) (s.withPads a b c d e)))
      (drivePads a b c d e s) := by
  have h0 := externalPin_same .int0 (s.pb.getLsbD 0) (c.getLsbD 0)
    { s with paDriven := a, paLevel := b, pb := c, pcDriven := d, pcLevel := e }
  have h1 := externalPin_same .int1 (s.pb.getLsbD 1) (c.getLsbD 1) (externalPin .int0 (s.pb.getLsbD 0) (c.getLsbD 0)
    { s with paDriven := a, paLevel := b, pb := c, pcDriven := d, pcLevel := e })
  have hpads : SameButHalted (s.withPads a b c d e) (externalPin .int1 (s.pb.getLsbD 1) (c.getLsbD 1)
      (externalPin .int0 (s.pb.getLsbD 0) (c.getLsbD 0)
        { s with paDriven := a, paLevel := b, pb := c, pcDriven := d, pcLevel := e })) := by
    refine SameButHalted.trans ?_ h1
    obtain ⟨b0, h0⟩ := h0
    rw [h0]
    exact ⟨b0, rfl⟩
  exact (hpads.timer0Pin _ _).timer1Pin _ _

theorem step_pads {a b c : Byte} {d e : BitVec 4} (henv : s.env = .pads a b c d e :: rest) : step s =
    .next (wakeByPads { s with env := rest } (drivePads a b c d e { s with env := rest })) := by
  simp only [step, nextStep, henv, eventStep]

theorem wakeByPads_same (s u : State) : SameButHalted u (wakeByPads s u) := ⟨_, wakeByPads_eq s u⟩

/-- The step of new pad levels: the two timer pins after the new levels, and for HALT what new requests do (R323). -/
theorem step_pads_effect {a b c : Byte} {d e : BitVec 4} (henv : s.env = .pads a b c d e :: rest) :
    ∃ t, step s = .next t ∧
      SameButHalted (timer1Pin (s.pb.getLsbD 3) (c.getLsbD 3) (timer0Pin (s.pb.getLsbD 2) (c.getLsbD 2)
        (State.withPads { s with env := rest } a b c d e))) t ∧
      (s.halted = false → t.halted = false) ∧
      ∀ x, s.req.get x = false → t.req.get x = true → t.halted = false := by
  have hraises := drivePads_onlyRaises a b c d e { s with env := rest }
  refine ⟨_, step_pads henv, (drivePads_same a b c d e { s with env := rest }).trans (wakeByPads_same _ _),
    fun hrun => ?_, fun x h0 h1 => ?_⟩
  · exact (wakeByPads_halted_iff _ _).mpr (.inr (hraises.keepsRunning hrun))
  · rw [wakeByPads_req] at h1
    exact (wakeByPads_halted_iff _ _).mpr (.inr (hraises.newRequestWakes x h0 h1))

/-- What an edge on timer 0's pin does to timer 1 is count events at most (R345). -/
theorem timer0Pin_t1_counted (old new : Bool) (s : State) : s.t1.Counted (timer0Pin old new s).t1 := by
  by_cases hedge : s.t0.activeEdge old new
  · rw [timer0Pin_of_active hedge]
    exact (countTimer0_counts s).t1
  · rw [timer0Pin_of_passive hedge]
    exact .refl _

/-- Count events leave the mode and TE. -/
theorem Timer.Counted.activeEdge_iff {x y : Timer} {old new : Bool} (h : x.Counted y) :
    y.activeEdge old new ↔ x.activeEdge old new := by
  rw [h.keeps]
  rfl

/-- Settles O56: but for HALT the event is the two timer pins after the new levels; each clause is read off them. -/
theorem pinEdgesRequestAndCount : Obligations.PinEdgesRequestAndCount := by
  intro s a b c d e rest henv
  obtain ⟨t, hstep, hsame, hruns, hwakes⟩ := step_pads_effect henv
  refine ⟨t, hstep, ?_⟩
  let u := State.withPads { s with env := rest } a b c d e
  let v := timer0Pin (s.pb.getLsbD 2) (c.getLsbD 2) u
  let w := timer1Pin (s.pb.getLsbD 3) (c.getLsbD 3) v
  have ht : t = { w with halted := t.halted } := hsame.eq
  have hinputs : TimersEffect u w := (timer0Pin_timers _ _ u).trans (timer1Pin_timer1 _ _ v).timers
  obtain ⟨hw0, hwreq0⟩ : w.t0 = v.t0 ∧ w.req.t0 = v.req.t0 := (timer1Pin_timer1 _ _ v).t0
  have htv0 : t.t0 = v.t0 := (congrArg State.t0 ht).trans hw0
  have htw1 : t.t1 = w.t1 := by rw [ht]
  have hv1 (h : s.noCascade ∨ s.t0.cnt ≠ 0xFF) : v.t1 = s.t1 := timer0Pin_t1 (s := u) h
  refine ⟨?_, hruns, ?_, ?_, fun hon hb h1 h0 hc => ?_, fun hon hb h1 h0 hc => ?_, fun hon hb hc hedge => ?_,
    fun hon hb hc hedge => ?_, fun h1 _ => ?_, fun h1 _ h => ?_, ?_⟩
  · rw [ht, hinputs]
    rfl
  · rw [ht, hinputs]
    rfl
  · rw [ht, hinputs]
    rfl
  · rw [htv0]
    exact timer0Pin_eventCount (s := u) hon hb h1 h0 hc
  · have hv := hv1 (.inl (noCascade_of (.inr (.inr (.inl h1)))))
    rw [htw1, ← hv]
    rw [← hv] at hon hb h1 h0 hc
    exact timer1Pin_eventCount hon hb h1 h0 hc
  · obtain ⟨hreload, hset⟩ := timer0Pin_overflow (s := u) hon hb hc hedge
    have hreq : t.req.t0 = true := (congrArg (·.req.t0) ht).trans (hwreq0.trans hset)
    exact ⟨htv0.trans hreload, hreq, fun h => hwakes .t0 h hreq⟩
  · have hv := hv1 (.inl (noCascade_of (.inr (.inr (.inl hedge.1)))))
    rw [← hv] at hon hb hc hedge ⊢
    obtain ⟨hreload, hset⟩ := timer1Pin_overflow hon hb hc hedge
    have hreq : t.req.t1 = true := (congrArg (·.req.t1) ht).trans hset
    exact ⟨htw1.trans hreload, hreq, fun h => hwakes .t1 h hreq⟩
  · rw [htv0]
    exact timer0Pin_measure (s := u) h1
  · have hv := hv1 (by
      obtain h | h | h := h
      · exact .inl (noCascade_of (.inl h))
      · exact .inl (noCascade_of (.inr (.inl h)))
      · exact .inr h)
    rw [htw1, ← hv]
    exact timer1Pin_measure (hv ▸ h1)
  · rintro _ v' w' rfl hv hv' hw hw'
    have hvv : v' = v := by
      by_cases hedge : s.t0.activeEdge (s.pb.getLsbD 2) (c.getLsbD 2)
      · exact (hv hedge).trans (timer0Pin_of_active (s := u) hedge).symm
      · exact (hv' hedge).trans (timer0Pin_of_passive (s := u) hedge).symm
    have hww : w' = w := by
      have hiff := (timer0Pin_t1_counted (s.pb.getLsbD 2) (c.getLsbD 2) u).activeEdge_iff
        (old := s.pb.getLsbD 3) (new := c.getLsbD 3)
      by_cases hedge : s.t1.activeEdge (s.pb.getLsbD 3) (c.getLsbD 3)
      · exact ((hw hedge).trans (by rw [hvv])).trans (timer1Pin_of_active (hiff.mpr hedge)).symm
      · exact ((hw' hedge).trans (by rw [hvv])).trans (timer1Pin_of_passive (mt hiff.mp hedge)).symm
    rw [hww]
    exact ht

end Sys2Proof.Machine
end

section
/-! PROOF. The watchdog, the time base, the RTC and the buzzer: one cycle of fs by any event, and runs of cycles of
fs. -/

namespace Sys2Proof.Machine

variable {s t u v : State} {e : Event} {rest : List Event} {n : Nat}

/-! ## The dividers in one cycle of fs -/

/-- A cycle of fs at the time base: its divider moves by one, or ends the period with the request (R351). -/
def TimeBaseMoves (s t : State) : Prop :=
  (s.tbCnt.toNat + 1 < 2 ^ s.opt.tbDiv → t.tbCnt = s.tbCnt + 1 ∧ t.req.tb = s.req.tb) ∧
  (2 ^ s.opt.tbDiv ≤ s.tbCnt.toNat + 1 → t.tbCnt = 0 ∧ t.req.tb = true)

/-- The same at the RTC (R352). -/
def RtcMoves (s t : State) : Prop :=
  (s.rtcCnt.toNat + 1 < 2 ^ (8 + s.rt.toNat) → t.rtcCnt = s.rtcCnt + 1 ∧ t.req.rtc = s.req.rtc) ∧
  (2 ^ (8 + s.rt.toNat) ≤ s.rtcCnt.toNat + 1 → t.rtcCnt = 0 ∧ t.req.rtc = true)

theorem tickTimeBase_count (h : s.tbCnt.toNat + 1 < 2 ^ s.opt.tbDiv) :
    tickTimeBase s = { s with tbCnt := s.tbCnt + 1 } := if_neg (Nat.not_le.mpr h)

theorem tickTimeBase_timeOut (h : 2 ^ s.opt.tbDiv ≤ s.tbCnt.toNat + 1) : tickTimeBase s = tickTimer1 .tbOvf
    { s with tbCnt := 0, req := { s.req with tb := true }, halted := s.halted && s.req.tb } := by
  rw [tickTimeBase, if_pos h, timeBaseOut, raise_eq]
  rfl

theorem tickRtc_count (h : s.rtcCnt.toNat + 1 < 2 ^ (8 + s.rt.toNat)) :
    tickRtc s = { s with rtcCnt := s.rtcCnt + 1 } := if_neg (Nat.not_le.mpr h)

/-- The state after an RTC time-out, before it counts a timer. -/
def State.rtcTimedOut (s : State) : State :=
  { s with rtcCnt := 0, req := { s.req with rtc := true }, halted := s.halted && s.req.rtc }

theorem tickRtc_timeOut (h : 2 ^ (8 + s.rt.toNat) ≤ s.rtcCnt.toNat + 1) :
    tickRtc s = if s.t0.tn2 then s.rtcTimedOut else clockTimer0 s.rtcTimedOut := by
  rw [tickRtc, if_pos h, rtcOut, raise_eq]
  rfl

theorem clockTimer0_timers (s : State) : TimersEffect s (clockTimer0 s) := by
  unfold clockTimer0
  split
  · exact countTimer0_timers s
  · rfl

theorem tickTimer0_timers (c : Config.T0Clk) (s : State) : TimersEffect s (tickTimer0 c s) := by
  unfold tickTimer0
  split
  · exact clockTimer0_timers s
  · rfl

theorem tickTimer1Div4_timers (s : State) : TimersEffect s (tickTimer1Div4 s) := by
  unfold tickTimer1Div4
  split
  · exact (clockTimer1_timer1 s).timers
  · rfl

/-- What the timers can change leaves the dividers, their requests, the options and RT. -/
def SameDividers (s t : State) : Prop :=
  t.tbCnt = s.tbCnt ∧ t.rtcCnt = s.rtcCnt ∧ t.bzCnt = s.bzCnt ∧ t.req.tb = s.req.tb ∧ t.req.rtc = s.req.rtc ∧
    t.opt = s.opt ∧ t.rt = s.rt

theorem TimersEffect.sameDividers (h : TimersEffect s u) : SameDividers s u := by
  rw [h]
  exact ⟨rfl, rfl, rfl, rfl, rfl, rfl, rfl⟩

theorem tickTimeBase_moves (s : State) : TimeBaseMoves s (tickTimeBase s) := by
  refine ⟨fun h => ?_, fun h => ?_⟩
  · rw [tickTimeBase_count h]
    exact ⟨rfl, rfl⟩
  · rw [tickTimeBase_timeOut h, (tickTimer1_timer1 _ _).timers]
    exact ⟨rfl, rfl⟩

/-- The time base leaves the RTC and the buzzer. -/
theorem tickTimeBase_others (s : State) : (tickTimeBase s).rtcCnt = s.rtcCnt ∧
    (tickTimeBase s).req.rtc = s.req.rtc ∧ (tickTimeBase s).rt = s.rt ∧ (tickTimeBase s).bzCnt = s.bzCnt := by
  by_cases h : s.tbCnt.toNat + 1 < 2 ^ s.opt.tbDiv
  · rw [tickTimeBase_count h]
    exact ⟨rfl, rfl, rfl, rfl⟩
  · rw [tickTimeBase_timeOut (Nat.not_lt.mp h), (tickTimer1_timer1 _ _).timers]
    exact ⟨rfl, rfl, rfl, rfl⟩

theorem tickRtc_timers (h : 2 ^ (8 + s.rt.toNat) ≤ s.rtcCnt.toNat + 1) :
    TimersEffect s.rtcTimedOut (tickRtc s) := by
  rw [tickRtc_timeOut h]
  split
  · exact .refl _
  · exact clockTimer0_timers _

theorem tickRtc_moves (s : State) : RtcMoves s (tickRtc s) := by
  refine ⟨fun h => ?_, fun h => ?_⟩
  · rw [tickRtc_count h]
    exact ⟨rfl, rfl⟩
  · rw [tickRtc_timers h]
    exact ⟨rfl, rfl⟩

/-- The RTC leaves the time base and the buzzer. -/
theorem tickRtc_others (s : State) : (tickRtc s).tbCnt = s.tbCnt ∧ (tickRtc s).req.tb = s.req.tb ∧
    (tickRtc s).bzCnt = s.bzCnt := by
  by_cases h : s.rtcCnt.toNat + 1 < 2 ^ (8 + s.rt.toNat)
  · rw [tickRtc_count h]
    exact ⟨rfl, rfl, rfl⟩
  · rw [tickRtc_timers (Nat.not_lt.mp h)]
    exact ⟨rfl, rfl, rfl⟩

/-- One cycle of fs at the three chains beside the watchdog. -/
structure ChainsMove (s t : State) : Prop where
  timeBase : TimeBaseMoves s t
  rtc : RtcMoves s t
  buzzer : t.bzCnt = s.bzCnt + 1

theorem fsChains_moves (s : State) : ChainsMove s (fsChains s) := by
  obtain ⟨hrtc, hreq, hrt, hbz⟩ := tickTimeBase_others s
  obtain ⟨htb, hreq', hbz'⟩ := tickRtc_others (tickTimeBase s)
  have htimeBase := tickTimeBase_moves s
  have hmoves := tickRtc_moves (tickTimeBase s)
  rw [TimeBaseMoves, ← htb, ← hreq'] at htimeBase
  rw [RtcMoves, hrtc, hreq, hrt] at hmoves
  rw [← hbz'] at hbz
  rw [fsChains]
  generalize tickRtc (tickTimeBase s) = u at *
  exact ⟨htimeBase, hmoves, congrArg (· + 1) hbz⟩

/-- The moves do not look at what the timers change before, nor at HALT or the watchdog after. -/
theorem ChainsMove.of_same (h : ChainsMove u v) (hs : SameDividers s u) (ht : SameDividers v t) : ChainsMove s t := by
  obtain ⟨⟨h1, h2⟩, ⟨h3, h4⟩, h5⟩ := h
  obtain ⟨htb, hrtc, hbz, hreqTb, hreqRtc, hopt, hrt⟩ := hs
  obtain ⟨htb', hrtc', hbz', hreqTb', hreqRtc', -, -⟩ := ht
  rw [htb, hopt, ← htb', hreqTb, ← hreqTb'] at h1
  rw [htb, hopt, ← htb', ← hreqTb'] at h2
  rw [hrtc, hrt, ← hrtc', hreqRtc, ← hreqRtc'] at h3
  rw [hrtc, hrt, ← hrtc', ← hreqRtc'] at h4
  exact ⟨⟨h1, h2⟩, ⟨h3, h4⟩, by rw [hbz', h5, hbz]⟩

/-! ## One cycle of fs, by any event -/

/-- A cycle of fs at a unit comes by the unit's own event, or it is one of the watchdog's cycles, with fs's own
oscillator or as a fourth system clock (R346, log 26). -/
theorem fsCycleAt_cases {c : ClockedUnit} (h : s.fsCycleAt c e) :
    (e = .unit c ∧ s.fsRuns = true) ∨ (s.fsCycleAt .watchdog e ∧ (e = .fsCycle ∨ e = .sysClock)) := by
  obtain ⟨hclk, rfl | rfl⟩ | ⟨hclk, hruns, ⟨rfl, hphase⟩ | rfl⟩ := h
  · exact .inr ⟨.inl ⟨hclk, .inl rfl⟩, .inl rfl⟩
  · exact .inl ⟨rfl, by simp [State.fsRuns, hclk]⟩
  · exact .inr ⟨.inr ⟨hclk, hruns, .inl ⟨rfl, hphase⟩⟩, .inr rfl⟩
  · exact .inl ⟨rfl, by simp [State.fsRuns, sysClockRuns_of hruns]⟩

theorem step_event (henv : s.env = e :: rest) : step s = eventStep decode e { s with env := rest } := by
  simp only [step, nextStep, henv]

/-- The watchdog's cycle of fs as a step: the clocks before it, the watchdog, the wake-up pads. -/
theorem step_of_fsCycleAt (henv : s.env = e :: rest) (h : s.fsCycleAt .watchdog e) : step s = .next
    (wakeByPads { s with env := rest } (tickWatchdog s.halted (beforeWatchdog { s with env := rest } e))) := by
  rw [step_event henv]
  exact eventStep_of_fsCycleAt (s := { s with env := rest }) h

/-- What the watchdog does short of its time-out: it counts where option 3 enables it (R350). -/
theorem tickWatchdog_quiet (b : Bool) (h : s.opt.wdtEn = false ∨ s.wdtCnt ≠ 0xFFFF) :
    tickWatchdog b s = { s with wdtCnt := if s.opt.wdtEn then s.wdtCnt + 1 else s.wdtCnt } := by
  obtain ⟨hen, hw⟩ | ⟨hen, -, hw⟩ | ⟨hen, hfull, -⟩ := tickWatchdog_cases b s
  · rw [hw, hen]
    rfl
  · rw [hw, hen]
    rfl
  · obtain h | h := h
    · exact absurd (hen.symm.trans h) Bool.noConfusion
    · exact absurd (BitVec.eq_of_toNat_eq (Nat.succ.inj hfull)) h

/-- The watchdog's cycle of fs short of its time-out: the clocks, the count, and perhaps the end of HALT. -/
theorem step_fsCycle_quiet (henv : s.env = e :: rest) (h : s.fsCycleAt .watchdog e)
    (hwdt : s.opt.wdtEn = false ∨ s.wdtCnt ≠ 0xFFFF) :
    ∃ u t, beforeWatchdog { s with env := rest } e = u ∧ step s = .next t ∧
      t = { u with wdtCnt := if s.opt.wdtEn then s.wdtCnt + 1 else s.wdtCnt, halted := t.halted } ∧
      (s.halted = false → t.halted = false) := by
  have hclock := beforeWatchdog_clock { s with env := rest } e
  have hstep := step_of_fsCycleAt henv h
  refine ⟨_, _, rfl, hstep, ?_⟩
  generalize beforeWatchdog { s with env := rest } e = u at *
  have hopt : u.opt = s.opt := hclock.raises.sameOptions
  have hcnt : u.wdtCnt = s.wdtCnt := by rw [hclock.unit]
  have hquiet : tickWatchdog s.halted u =
      { u with wdtCnt := if s.opt.wdtEn then s.wdtCnt + 1 else s.wdtCnt } := by
    rw [tickWatchdog_quiet s.halted (s := u) (by rwa [hopt, hcnt]), hopt, hcnt]
  rw [hquiet]
  exact ⟨wakeByPads_eq _ _, fun hrun => (wakeByPads_halted_iff _ _).mpr (.inr (hclock.raises.keepsRunning hrun))⟩

theorem sysTimers_timers (s : State) : TimersEffect { s with tPhase := s.tPhase + 1 } (sysTimers s) :=
  (tickTimer0_timers .sys _).trans (tickTimer1_timer1 .sys _).timers

theorem div4Timers_timers (s : State) : TimersEffect s (div4Timers s) :=
  (tickTimer0_timers .sysDiv4 s).trans (tickTimer1Div4_timers _)

/-- In a cycle of fs at all its units the chains make their move. -/
theorem beforeWatchdog_moves (he : e = .fsCycle ∨ e = .sysClock) (s : State) :
    ChainsMove s (beforeWatchdog s e) := by
  obtain rfl | rfl := he
  · exact fsChains_moves s
  · have hsame : SameDividers s (div4Timers (sysTimers s)) :=
      ((sysTimers_timers s).trans (div4Timers_timers _)).sameDividers
    exact (fsChains_moves _).of_same hsame ⟨rfl, rfl, rfl, rfl, rfl, rfl, rfl⟩

theorem step_fsCycle_moves (henv : s.env = e :: rest) (h : s.fsCycleAt .watchdog e)
    (he : e = .fsCycle ∨ e = .sysClock) (hwdt : s.opt.wdtEn = false ∨ s.wdtCnt ≠ 0xFFFF) :
    ∃ t, step s = .next t ∧ ChainsMove s t := by
  obtain ⟨u, t, rfl, hstep, ht, -⟩ := step_fsCycle_quiet henv h hwdt
  have hmoves := beforeWatchdog_moves he { s with env := rest }
  generalize beforeWatchdog { s with env := rest } e = u at *
  refine ⟨t, hstep, ?_⟩
  rw [ht]
  exact hmoves.of_same ⟨rfl, rfl, rfl, rfl, rfl, rfl, rfl⟩ ⟨rfl, rfl, rfl, rfl, rfl, rfl, rfl⟩

/-- A cycle of its clock at one chain alone. -/
theorem step_unit {c : ClockedUnit} (henv : s.env = .unit c :: rest) :
    step s = .next (wakeByPads { s with env := rest } (unitTick c { s with env := rest })) := by
  rw [step_event henv]
  rfl

theorem step_timeBase_moves (henv : s.env = e :: rest) (h : s.fsCycleAt .timeBase e)
    (hwdt : s.opt.wdtEn = false ∨ s.wdtCnt ≠ 0xFFFF) : ∃ t, step s = .next t ∧ TimeBaseMoves s t := by
  obtain ⟨rfl, hruns⟩ | ⟨hcycle, he⟩ := fsCycleAt_cases h
  · refine ⟨_, step_unit henv, ?_⟩
    rw [wakeByPads_eq, unitTick, if_pos (by exact hruns)]
    exact tickTimeBase_moves { s with env := rest }
  · obtain ⟨t, hstep, hmoves⟩ := step_fsCycle_moves henv hcycle he hwdt
    exact ⟨t, hstep, hmoves.timeBase⟩

theorem step_rtc_moves (henv : s.env = e :: rest) (h : s.fsCycleAt .rtc e)
    (hwdt : s.opt.wdtEn = false ∨ s.wdtCnt ≠ 0xFFFF) : ∃ t, step s = .next t ∧ RtcMoves s t := by
  obtain ⟨rfl, hruns⟩ | ⟨hcycle, he⟩ := fsCycleAt_cases h
  · refine ⟨_, step_unit henv, ?_⟩
    rw [wakeByPads_eq, unitTick, if_pos (by exact hruns)]
    exact tickRtc_moves { s with env := rest }
  · obtain ⟨t, hstep, hmoves⟩ := step_fsCycle_moves henv hcycle he hwdt
    exact ⟨t, hstep, hmoves.rtc⟩

theorem step_buzzer_moves (henv : s.env = e :: rest) (h : s.fsCycleAt .buzzer e)
    (hwdt : s.opt.wdtEn = false ∨ s.wdtCnt ≠ 0xFFFF) : ∃ t, step s = .next t ∧ t.bzCnt = s.bzCnt + 1 := by
  obtain ⟨rfl, hruns⟩ | ⟨hcycle, he⟩ := fsCycleAt_cases h
  · refine ⟨_, step_unit henv, ?_⟩
    rw [wakeByPads_eq, unitTick, if_pos (by exact hruns)]
    rfl
  · obtain ⟨t, hstep, hmoves⟩ := step_fsCycle_moves henv hcycle he hwdt
    exact ⟨t, hstep, hmoves.buzzer⟩

/-! ## Runs -/

theorem UnitEffect.keeps (h : UnitEffect s u) : u.opt = s.opt ∧ u.rt = s.rt ∧ u.env = s.env := by
  rw [h]
  exact ⟨rfl, rfl, rfl⟩

theorem runNext_succ (h : step s = .next t) (n : Nat) : runNext s (n + 1) = runNext t n := by
  simp only [runNext, h]

theorem runNext_add (s : State) (m n : Nat) : runNext s (m + n) = (runNext s m).bind (runNext · n) := by
  induction m generalizing s with
  | zero => simp [runNext]
  | succ m ih =>
    rw [Nat.add_right_comm]
    cases h : step s with
    | next t => rw [runNext_succ h, runNext_succ h, ih]
    | fault f => simp [runNext, h]
    | refused r => simp [runNext, h]

/-- An enabled watchdog counts the cycles of fs, and nothing of the core moves, while it does not time out (R350). -/
theorem runNext_watchdog (n : Nat) (s : State) (henv : s.env = List.replicate n .fsCycle ++ rest)
    (hclk : s.opt.wdtClk ≠ .sysDiv4) (hen : s.opt.wdtEn = true) (hn : s.wdtCnt.toNat + n < 65536) :
    ∃ t, runNext s n = some t ∧ t.env = rest ∧ t.wdtCnt.toNat = s.wdtCnt.toNat + n ∧ t.coreView = s.coreView ∧
      t.opt = s.opt ∧ (s.halted = false → t.halted = false) := by
  induction n generalizing s with
  | zero => exact ⟨s, rfl, henv, rfl, rfl, rfl, id⟩
  | succ n ih =>
    have hne : s.wdtCnt ≠ 0xFFFF := by
      intro h
      have hfull : s.wdtCnt.toNat = 65535 := by rw [h]; rfl
      omega
    have henv1 : s.env = .fsCycle :: (List.replicate n .fsCycle ++ rest) := henv
    obtain ⟨v, u, hv, hstep, hu, hrun⟩ := step_fsCycle_quiet henv1 (.inl ⟨hclk, .inl rfl⟩) (.inr hne)
    have hclock := (beforeWatchdog_clock { s with env := List.replicate n .fsCycle ++ rest } .fsCycle).unit
    rw [hv] at hclock
    rw [hen, if_pos rfl] at hu
    obtain ⟨hvopt, -, hvenv⟩ := hclock.keeps
    have hcore : u.coreView = s.coreView := (congrArg State.coreView hu).trans hclock.coreView
    have hopt : u.opt = s.opt := (congrArg State.opt hu).trans hvopt
    have henv' : u.env = List.replicate n .fsCycle ++ rest := (congrArg State.env hu).trans hvenv
    have hcnt : u.wdtCnt.toNat = s.wdtCnt.toNat + 1 := by
      have hlt : s.wdtCnt.toNat + 1 < 2 ^ 16 := by omega
      rw [hu]
      exact BitVec.toNat_add_of_lt hlt
    obtain ⟨t, hrunNext, htenv, htcnt, htcore, htopt, hthalt⟩ := ih u henv' (by rwa [hopt]) (by rwa [hopt]) (by omega)
    exact ⟨t, (runNext_succ hstep n).trans hrunNext, htenv, by omega, htcore.trans hcore, htopt.trans hopt,
      hthalt ∘ hrun⟩

/-- The cycle of fs after 65535 counts is the time-out (R347). -/
theorem runNext_watchdog_timeOut (henv : s.env = List.replicate (n + 1) .fsCycle)
    (hclk : s.opt.wdtClk ≠ .sysDiv4) (hen : s.opt.wdtEn = true) (hcnt : s.wdtCnt = 0) (hrun : s.halted = false)
    (hn : n = 65535) : ∃ t, runNext s (n + 1) = some t ∧ t.tof = true ∧ t.pdf = s.pdf ∧ t.pc = 0 ∧ t.stk = [] := by
  have hcnt0 : s.wdtCnt.toNat = 0 := by rw [hcnt]; rfl
  obtain ⟨t, hrunNext, htenv, htcnt, htcore, htopt, hthalt⟩ :=
    runNext_watchdog (rest := [.fsCycle]) n s (henv.trans List.replicate_succ') hclk hen (by omega)
  have hfull : t.wdtCnt = 0xFFFF := BitVec.eq_of_toNat_eq (by rw [htcnt, hcnt0, hn]; rfl)
  have hstep := step_watchdogTimeOut_running htenv (.inl ⟨by rwa [htopt], .inl rfl⟩) (by rwa [htopt]) hfull
    (hthalt hrun)
  have hpdf : (beforeWatchdog { t with env := [] } .fsCycle).pdf = s.pdf := by
    obtain ⟨-, -, -, -, -, -, -, -, -, -, hpdf, -⟩ := (coreView_eq_iff _ _).mp htcore
    exact (beforeWatchdog_clock { t with env := [] } .fsCycle).unit.sameToPd.2.trans hpdf
  have hlast : runNext s (n + 1) = runNext t 1 := by rw [runNext_add, hrunNext, Option.bind_some]
  exact ⟨_, hlast.trans (runNext_succ hstep 0), rfl, hpdf, rfl, rfl⟩

/-! ## The watchdog's statement -/

/-- Short of its time-out the watchdog counts, where option 3 enables it, and no reset comes (R350). -/
theorem step_fsCycle_wdtCnt (henv : s.env = e :: rest) (h : s.fsCycleAt .watchdog e)
    (hwdt : s.opt.wdtEn = false ∨ s.wdtCnt ≠ 0xFFFF) :
    ∃ t, step s = .next t ∧ t.wdtCnt = (if s.opt.wdtEn then s.wdtCnt + 1 else s.wdtCnt) ∧
      t.tof = s.tof ∧ t.pdf = s.pdf ∧ t.pc = s.pc ∧ t.stk = s.stk := by
  obtain ⟨u, t, hu, hstep, ht, -⟩ := step_fsCycle_quiet henv h hwdt
  have hclock := beforeWatchdog_clock { s with env := rest } e
  rw [hu] at hclock
  have hcore : t.coreView = s.coreView := (congrArg State.coreView ht).trans hclock.unit.coreView
  obtain ⟨hpc, hstk, -, -, -, -, -, -, -, htof, hpdf, -⟩ := (coreView_eq_iff _ _).mp hcore
  exact ⟨t, hstep, congrArg State.wdtCnt ht, htof, hpdf, hpc, hstk⟩

/-- No cycle of the system clock but a fourth one reaches the watchdog. -/
theorem step_sysClock_keepsWdt (henv : s.env = .sysClock :: rest) (hphase : s.tPhase ≠ 3) :
    ∃ t, step s = .next t ∧ t.wdtCnt = s.wdtCnt := by
  refine ⟨_, step_event henv, ?_⟩
  rw [wakeByPads_eq]
  cases hruns : State.sysClockRuns { s with env := rest }
  · rw [sysTick_of_stopped hruns]
  · rw [sysTick_of_phase_ne hruns hphase, (sysTimers_clock _).unit]

/-- Where system clock/4 is fs and stands, no clock event does anything (R327, R348). -/
theorem step_of_stopped_fs (henv : s.env = e :: rest) (hclk : s.opt.wdtClk = .sysDiv4) (hhalt : s.halted = true)
    (hosc : s.opt.osc ≠ .crystal32768) (he : e = .sysClock ∨ e = .fsCycle ∨ e = .unit .watchdog) :
    step s = .next { s with env := rest } := by
  have hruns : State.sysClockRuns { s with env := rest } = false := by simp [State.sysClockRuns, hhalt, hosc]
  have hfs : State.fsRuns { s with env := rest } = false := by simp [State.fsRuns, hclk, hruns]
  rw [step_event henv]
  obtain rfl | rfl | rfl := he
  · simp only [eventStep, sysTick_of_stopped hruns, wakeByPads_self]
  · simp only [eventStep, hclk, if_true]
  · simp only [eventStep, unitTick, hfs, Bool.false_eq_true, if_false, wakeByPads_self]

/-- Settles O58: the run by induction, the single step by the cycle of fs at the watchdog. -/
theorem watchdogPeriodIs65536 : Obligations.WatchdogPeriodIs65536 := by
  refine ⟨fun s n henv hclk hen hcnt hrun => ⟨fun hn => ?_, fun hn => ?_⟩, fun s e rest henv =>
    ⟨fun hcycle => ⟨fun hen hne => ?_, fun hen hfull hrun => ?_, fun hdis => ?_⟩, ?_, ?_⟩⟩
  · have hcnt0 : s.wdtCnt.toNat = 0 := by rw [hcnt]; rfl
    obtain ⟨t, hrunNext, -, htcnt, htcore, -, -⟩ :=
      runNext_watchdog (rest := []) n s (henv.trans (List.append_nil _).symm) hclk hen (by omega)
    obtain ⟨hpc, hstk, -, -, -, -, -, -, -, htof, -⟩ := (coreView_eq_iff _ _).mp htcore
    exact ⟨t, hrunNext, by omega, htof, hpc, hstk⟩
  · obtain ⟨m, rfl⟩ : ∃ m, n = m + 1 := ⟨65535, hn⟩
    exact runNext_watchdog_timeOut henv hclk hen hcnt hrun (Nat.succ.inj hn)
  · obtain ⟨t, hstep, hcnt, hkeeps⟩ := step_fsCycle_wdtCnt henv hcycle (.inr hne)
    rw [hen, if_pos rfl] at hcnt
    exact ⟨t, hstep, hcnt, hkeeps⟩
  · refine ⟨_, step_watchdogTimeOut_running henv hcycle hen hfull hrun, chipReset_hasResetValues _, rfl, ?_⟩
    exact (beforeWatchdog_clock { s with env := rest } e).unit.sameToPd.2
  · obtain ⟨t, hstep, hcnt, hkeeps⟩ := step_fsCycle_wdtCnt henv hcycle (.inl hdis)
    rw [hdis, if_neg Bool.false_ne_true] at hcnt
    exact ⟨t, hstep, hcnt, hkeeps⟩
  · rintro rfl hphase
    exact step_sysClock_keepsWdt henv hphase
  · exact step_of_stopped_fs henv

/-! ## The periods of the time base and the RTC -/

/-- A request flag after `n` cycles of a divider by `period` that stood at `cnt`: it stays set, it is as before while
the period lasts, and the end of the period sets it. -/
def FlagAfter (period cnt n : Nat) (before after : Bool) : Prop :=
  (before = true → after = true) ∧ (cnt + n < period → after = before) ∧
    (0 < n → period ≤ cnt + n → after = true)

theorem FlagAfter.zero (period cnt : Nat) (b : Bool) : FlagAfter period cnt 0 b b :=
  ⟨id, fun _ => rfl, fun h => absurd h (Nat.lt_irrefl 0)⟩

/-- One more cycle in front. -/
theorem FlagAfter.succ {period cnt cnt' : Nat} {before mid after : Bool}
    (hcount : cnt + 1 < period → cnt' = cnt + 1 ∧ mid = before) (hout : period ≤ cnt + 1 → mid = true)
    (h : FlagAfter period cnt' n mid after) : FlagAfter period cnt (n + 1) before after := by
  obtain ⟨hstays, hbefore, hafter⟩ := h
  by_cases hc : cnt + 1 < period
  · obtain ⟨rfl, rfl⟩ := hcount hc
    exact ⟨hstays, fun hn => hbefore (by omega), fun _ hn => hafter (by omega) (by omega)⟩
  · have hset := hstays (hout (by omega))
    exact ⟨fun _ => hset, fun hn => absurd hn (by omega), fun _ _ => hset⟩

/-- From a cleared divider and flag, the flag is clear before the period ends and set at its end. -/
theorem FlagAfter.period {period : Nat} {after : Bool} (hpos : 0 < period) (h : FlagAfter period 0 n false after) :
    (n < period → after = false) ∧ (n = period → after = true) := by
  obtain ⟨-, hbefore, hafter⟩ := h
  exact ⟨fun hn => hbefore (by omega), fun hn => hafter (by omega) (by omega)⟩

/-- What `n` cycles of fs do to the three chains. -/
structure ChainsAfter (n : Nat) (s t : State) : Prop where
  timeBase : FlagAfter (2 ^ s.opt.tbDiv) s.tbCnt.toNat n s.req.tb t.req.tb
  rtc : FlagAfter (2 ^ (8 + s.rt.toNat)) s.rtcCnt.toNat n s.req.rtc t.req.rtc
  buzzer : t.bzCnt.toNat = (s.bzCnt.toNat + n) % 512
  options : t.opt = s.opt

/-- Fifteen bits are enough for every period. -/
theorem succ_toNat_of_period {x y : BitVec 15} {k : Nat} (hk : k ≤ 15) (hx : x.toNat + 1 < 2 ^ k) (h : y = x + 1) :
    y.toNat = x.toNat + 1 := by
  have hlt : x.toNat + 1 < 2 ^ 15 := hx.trans_le (Nat.pow_le_pow_right (by decide) hk)
  rw [h]
  exact BitVec.toNat_add_of_lt hlt

theorem tbDiv_le (h : s.opt.wf = true) : s.opt.tbDiv ≤ 15 := by
  simp only [Config.Options.wf, Bool.and_eq_true, decide_eq_true_eq] at h
  omega

theorem bzDiv_range (h : s.opt.wf = true) : 2 ≤ s.opt.bzDiv ∧ s.opt.bzDiv ≤ 9 := by
  simp only [Config.Options.wf, Bool.and_eq_true, decide_eq_true_eq] at h
  omega

theorem ChainsAfter.succ (hwf : s.opt.wf = true) (hmoves : ChainsMove s u) (hopt : u.opt = s.opt) (hrt : u.rt = s.rt)
    (h : ChainsAfter n u t) : ChainsAfter (n + 1) s t where
  timeBase := by
    have htb := h.timeBase
    rw [hopt] at htb
    exact .succ (fun hc => (hmoves.timeBase.1 hc).imp_left (succ_toNat_of_period (tbDiv_le hwf) hc))
      (fun hc => (hmoves.timeBase.2 hc).2) htb
  rtc := by
    have hrtc := h.rtc
    rw [hrt] at hrtc
    have hle : 8 + s.rt.toNat ≤ 15 := by have := s.rt.isLt; omega
    exact .succ (fun hc => (hmoves.rtc.1 hc).imp_left (succ_toNat_of_period hle hc))
      (fun hc => (hmoves.rtc.2 hc).2) hrtc
  buzzer := by
    rw [h.buzzer, hmoves.buzzer, BitVec.toNat_add, Nat.mod_add_mod]
    have hone : (1 : BitVec 9).toNat = 1 := rfl
    rw [hone, Nat.add_assoc, Nat.add_comm 1]
  options := h.options.trans hopt

/-- A run of cycles of fs with the watchdog off. -/
theorem runNext_chains (n : Nat) (s : State) (henv : s.env = List.replicate n .fsCycle)
    (hclk : s.opt.wdtClk ≠ .sysDiv4) (hdis : s.opt.wdtEn = false) (hwf : s.opt.wf = true) :
    ∃ t, runNext s n = some t ∧ ChainsAfter n s t := by
  induction n generalizing s with
  | zero =>
    exact ⟨s, rfl, .zero _ _ _, .zero _ _ _, (Nat.mod_eq_of_lt s.bzCnt.isLt).symm, rfl⟩
  | succ n ih =>
    have henv1 : s.env = .fsCycle :: List.replicate n .fsCycle := henv
    obtain ⟨v, u, hv, hstep, hu, -⟩ := step_fsCycle_quiet henv1 (.inl ⟨hclk, .inl rfl⟩) (.inl hdis)
    have hclock := (beforeWatchdog_clock { s with env := List.replicate n .fsCycle } .fsCycle).unit
    have hchains := beforeWatchdog_moves (.inl rfl) { s with env := List.replicate n .fsCycle }
    rw [hv] at hclock hchains
    have hmoves : ChainsMove s u := by
      rw [hu]
      exact hchains.of_same ⟨rfl, rfl, rfl, rfl, rfl, rfl, rfl⟩ ⟨rfl, rfl, rfl, rfl, rfl, rfl, rfl⟩
    obtain ⟨hvopt, hvrt, hvenv⟩ := hclock.keeps
    have hopt : u.opt = s.opt := (congrArg State.opt hu).trans hvopt
    have hrt : u.rt = s.rt := (congrArg State.rt hu).trans hvrt
    have henv' : u.env = List.replicate n .fsCycle := (congrArg State.env hu).trans hvenv
    obtain ⟨t, hrun, hafter⟩ := ih u henv' (by rwa [hopt]) (by rwa [hopt]) (by rwa [hopt])
    exact ⟨t, (runNext_succ hstep n).trans hrun, hafter.succ hwf hmoves hopt hrt⟩

/-- The top bit of a divider by 2^(k + 1) is high in the second half of its period. -/
theorem testBit_eq_decide_half (m k : Nat) : m.testBit k = decide (2 ^ k ≤ m % 2 ^ (k + 1)) := by
  have hlow : m % 2 ^ k < 2 ^ k := Nat.mod_lt m (Nat.two_pow_pos k)
  rw [Nat.testBit_eq_decide_div_mod_eq, Nat.pow_succ, Nat.mod_mul, decide_eq_decide]
  obtain h | h := Nat.mod_two_eq_zero_or_one (m / 2 ^ k)
  · rw [h]
    omega
  · rw [h]
    omega

/-- BZ is a square wave of fs / 2^bzDiv (R362, log 14). -/
theorem buzzer_after (hwf : s.opt.wf = true) (h : ChainsAfter n s t) :
    t.buzzer = decide (2 ^ (s.opt.bzDiv - 1) ≤ (s.bzCnt.toNat + n) % 2 ^ s.opt.bzDiv) := by
  obtain ⟨hlo, hhi⟩ := bzDiv_range hwf
  have hdvd : 2 ^ s.opt.bzDiv ∣ 512 := Nat.pow_dvd_pow 2 hhi
  rw [State.buzzer, h.options, BitVec.getLsbD, h.buzzer, testBit_eq_decide_half, Nat.sub_add_cancel (by omega),
    Nat.mod_mod_of_dvd _ hdvd]

/-- Settles O59: the periods by `runNext_chains`, the single steps by the moves of each chain. -/
theorem timeBaseAndRtcPeriods : Obligations.TimeBaseAndRtcPeriods := by
  refine ⟨fun s n henv hclk hdis hwf => ?_, fun s e rest henv hwdt =>
    ⟨fun h => step_timeBase_moves henv h hwdt, fun h => step_rtc_moves henv h hwdt,
      fun h => step_buzzer_moves henv h hwdt⟩⟩
  obtain ⟨t, hrun, hafter⟩ := runNext_chains n s henv hclk hdis hwf
  refine ⟨t, hrun, fun hcnt hreq => ?_, fun hcnt hreq => ?_, buzzer_after hwf hafter⟩
  · have h := hafter.timeBase
    rw [hcnt, hreq] at h
    exact h.period (Nat.two_pow_pos _)
  · have h := hafter.rtc
    rw [hcnt, hreq] at h
    exact h.period (Nat.two_pow_pos _)

end Sys2Proof.Machine
end

section
/-! PROOF. Which clock counts a timer: the count events of each clock below the overflow, and the step of each event. -/

namespace Sys2Proof.Machine

variable {s t u : State} {rest : List Event} {p q : Prop} [Decidable p] [Decidable q]

/-! ## Counting below the overflow -/

/-- The timer after a count event where `p` holds, short of its overflow (R333). -/
def Timer.countIf (x : Timer) (p : Prop) [Decidable p] : Timer := { x with cnt := if p then x.cnt + 1 else x.cnt }

/-- A count event of the timer counts: no read has blocked it, and it is not the overflow (R333, R339). -/
def Timer.counts (x : Timer) : Prop := x.blk = false ∧ x.cnt ≠ 0xFF

theorem Timer.countIf_pos (x : Timer) (h : p) : x.countIf p = { x with cnt := x.cnt + 1 } := by
  rw [Timer.countIf, if_pos h]

theorem Timer.countIf_neg (x : Timer) (h : ¬ p) : x.countIf p = x := by
  rw [Timer.countIf, if_neg h]

theorem Timer.countIf_congr (x : Timer) (h : p ↔ q) : x.countIf p = x.countIf q := by
  simp only [Timer.countIf, h]

/-- Two clocks that never come together. -/
theorem Timer.countIf_or (x : Timer) (h : ¬ (p ∧ q)) : (x.countIf p).countIf q = x.countIf (p ∨ q) := by
  by_cases hp : p
  · have hpq : p ∨ q := .inl hp
    rw [Timer.countIf_neg _ fun hq => h ⟨hp, hq⟩, Timer.countIf_pos x hp, Timer.countIf_pos x hpq]
  · have hpq : q ↔ p ∨ q := (or_iff_right hp).symm
    rw [Timer.countIf_neg x hp, Timer.countIf_congr x hpq]

theorem Timer.takesClocks_iff (x : Timer) : x.takesClocks = true ↔ x.ton = true ∧ x.countsInternal = true := by
  simp only [Timer.takesClocks, Timer.countsInternal, Bool.and_eq_true, and_assoc]

theorem clockTimer0_taken (h : s.t0.takesClocks = true) : clockTimer0 s = countTimer0 s :=
  if_pos ((Timer.takesClocks_iff _).mp h).2

theorem clockTimer1_taken (h : s.t1.takesClocks = true) : clockTimer1 s = countTimer1 s :=
  if_pos ((Timer.takesClocks_iff _).mp h).2

/-- A timer that is off, or takes no internal clocks, is not counted by them (R333). -/
theorem clockTimer0_untaken (h : s.t0.takesClocks = false) : clockTimer0 s = s := by
  by_cases hc : s.t0.countsInternal = true
  · exact clockTimer0_off (Bool.eq_false_iff.mpr fun hon =>
      Bool.eq_false_iff.mp h ((Timer.takesClocks_iff _).mpr ⟨hon, hc⟩))
  · exact if_neg hc

theorem clockTimer1_untaken (h : s.t1.takesClocks = false) : clockTimer1 s = s := by
  by_cases hc : s.t1.countsInternal = true
  · exact clockTimer1_off (Bool.eq_false_iff.mpr fun hon =>
      Bool.eq_false_iff.mp h ((Timer.takesClocks_iff _).mpr ⟨hon, hc⟩))
  · exact if_neg hc

/-- The state with other timers, and another position within the four system clocks (log 26). -/
def State.withTimers (s : State) (ph : BitVec 2) (x0 x1 : Timer) : State := { s with tPhase := ph, t0 := x0, t1 := x1 }

theorem clockTimer0_countIf (h : s.t0.counts) :
    clockTimer0 s = s.withTimers s.tPhase (s.t0.countIf (s.t0.takesClocks = true)) s.t1 := by
  cases ht : s.t0.takesClocks
  · rw [clockTimer0_untaken ht, Timer.countIf_neg _ Bool.false_ne_true]
    rfl
  · rw [clockTimer0_taken ht, countTimer0_below ((Timer.takesClocks_iff _).mp ht).1 h.1 h.2, Timer.countIf_pos _ rfl]
    rfl

theorem clockTimer1_countIf (h : s.t1.counts) :
    clockTimer1 s = s.withTimers s.tPhase s.t0 (s.t1.countIf (s.t1.takesClocks = true)) := by
  cases ht : s.t1.takesClocks
  · rw [clockTimer1_untaken ht, Timer.countIf_neg _ Bool.false_ne_true]
    rfl
  · rw [clockTimer1_taken ht, countTimer1_below ((Timer.takesClocks_iff _).mp ht).1 h.1 h.2, Timer.countIf_pos _ rfl]
    rfl

/-! ## The clocks of the timers -/

theorem tickTimer0_countIf (c : Config.T0Clk) (h : s.t0.tn2 = true → s.opt.t0Clk = c → s.t0.counts) :
    tickTimer0 c s = s.withTimers s.tPhase
      (s.t0.countIf (s.t0.takesClocks = true ∧ s.t0.tn2 = true ∧ s.opt.t0Clk = c)) s.t1 := by
  unfold tickTimer0
  split
  · next htakes =>
    obtain ⟨htn2, hclk⟩ := (timer0Takes_iff s c).mp htakes
    rw [clockTimer0_countIf (h htn2 hclk), Timer.countIf_congr _ (and_iff_left ⟨htn2, hclk⟩)]
  · next htakes =>
    rw [Timer.countIf_neg _ fun hp => htakes ((timer0Takes_iff s c).mpr hp.2)]
    rfl

theorem tickTimer1_countIf (c : Config.T1Clk) (h : s.t1.tn2 = false → s.opt.t1Clk = c → s.t1.counts) :
    tickTimer1 c s = s.withTimers s.tPhase s.t0
      (s.t1.countIf (s.t1.takesClocks = true ∧ s.t1.tn2 = false ∧ s.opt.t1Clk = c)) := by
  unfold tickTimer1
  split
  · next htakes =>
    obtain ⟨htn2, hclk⟩ := (timer1Takes_iff s c).mp htakes
    rw [clockTimer1_countIf (h htn2 hclk), Timer.countIf_congr _ (and_iff_left ⟨htn2, hclk⟩)]
  · next htakes =>
    rw [Timer.countIf_neg _ fun hp => htakes ((timer1Takes_iff s c).mpr hp.2)]
    rfl

theorem tickTimer1Div4_countIf (h : s.t1.tn2 = true → s.t1.counts) : tickTimer1Div4 s =
    s.withTimers s.tPhase s.t0 (s.t1.countIf (s.t1.takesClocks = true ∧ s.t1.tn2 = true)) := by
  unfold tickTimer1Div4
  split
  · next htn2 => rw [clockTimer1_countIf (h htn2), Timer.countIf_congr _ (and_iff_left htn2)]
  · next htn2 =>
    rw [Timer.countIf_neg _ fun hp => htn2 hp.2]
    rfl

/-- A cycle of the system clock at the timers: timer 0 with TN2 = 1 by option 10, timer 1 with TN2 = 0 by option 11
(R331). -/
theorem sysTimers_countIf (h0 : s.t0.counts) (h1 : s.t1.counts) : sysTimers s = s.withTimers (s.tPhase + 1)
    (s.t0.countIf (s.t0.takesClocks = true ∧ s.t0.tn2 = true ∧ s.opt.t0Clk = .sys))
    (s.t1.countIf (s.t1.takesClocks = true ∧ s.t1.tn2 = false ∧ s.opt.t1Clk = .sys)) := by
  have hsys : sysTimers s = tickTimer1 .sys (tickTimer0 .sys (s.withTimers (s.tPhase + 1) s.t0 s.t1)) := rfl
  rw [hsys, tickTimer0_countIf, tickTimer1_countIf]
  · rfl
  · exact fun _ _ => h1
  · exact fun _ _ => h0

/-- With a cycle of system clock/4 behind it: TN2 = 1 counts timer 0 whatever option 10 selects, and timer 1 (R331). -/
theorem fourthClock_countIf (h0 : s.t0.counts) (h1 : s.t1.counts) :
    div4Timers (sysTimers s) = s.withTimers (s.tPhase + 1)
      (s.t0.countIf (s.t0.takesClocks = true ∧ s.t0.tn2 = true))
      (s.t1.countIf (s.t1.takesClocks = true ∧
        ((s.t1.tn2 = false ∧ s.opt.t1Clk = .sys) ∨ s.t1.tn2 = true))) := by
  have hclk0 : (s.t0.countIf (s.t0.takesClocks = true ∧ s.t0.tn2 = true ∧ s.opt.t0Clk = .sys)).countIf
      (s.t0.takesClocks = true ∧ s.t0.tn2 = true ∧ s.opt.t0Clk = .sysDiv4) =
      s.t0.countIf (s.t0.takesClocks = true ∧ s.t0.tn2 = true) := by
    rw [Timer.countIf_or _ (by cases s.opt.t0Clk <;> simp)]
    exact Timer.countIf_congr _ (by cases s.opt.t0Clk <;> simp)
  have hclk1 : (s.t1.countIf (s.t1.takesClocks = true ∧ s.t1.tn2 = false ∧ s.opt.t1Clk = .sys)).countIf
      (s.t1.takesClocks = true ∧ s.t1.tn2 = true) =
      s.t1.countIf (s.t1.takesClocks = true ∧ ((s.t1.tn2 = false ∧ s.opt.t1Clk = .sys) ∨ s.t1.tn2 = true)) := by
    rw [Timer.countIf_or _ (by cases s.t1.tn2 <;> simp)]
    exact Timer.countIf_congr _ and_or_left.symm
  rw [sysTimers_countIf h0 h1, div4Timers, tickTimer0_countIf, tickTimer1Div4_countIf, ← hclk0, ← hclk1]
  · rfl
  · intro htn2
    have hnot : ¬ (s.t1.takesClocks = true ∧ s.t1.tn2 = false ∧ s.opt.t1Clk = .sys) := fun ⟨_, h, _⟩ =>
      Bool.noConfusion (h.symm.trans htn2)
    rw [Timer.countIf_neg _ hnot]
    exact h1
  · intro _ hclk
    have hnot : ¬ (s.t0.takesClocks = true ∧ s.t0.tn2 = true ∧ s.opt.t0Clk = .sys) := fun ⟨_, _, h⟩ =>
      Config.T0Clk.noConfusion (h.symm.trans hclk)
    rw [Timer.countIf_neg _ hnot]
    exact h0

/-! ## The time-outs at the timers -/

/-- A time base time-out counts timer 1 where it selects it (R331, R351). -/
theorem tickTimeBase_countIf (h : s.t1.tn2 = false → s.opt.t1Clk = .tbOvf → s.t1.counts) :
    (tickTimeBase s).t0 = s.t0 ∧ (tickTimeBase s).tPhase = s.tPhase ∧
    (tickTimeBase s).t1 = s.t1.countIf (s.t1.takesClocks = true ∧ s.t1.tn2 = false ∧ s.opt.t1Clk = .tbOvf ∧
      2 ^ s.opt.tbDiv ≤ s.tbCnt.toNat + 1) := by
  by_cases hdue : 2 ^ s.opt.tbDiv ≤ s.tbCnt.toNat + 1
  · rw [tickTimeBase_timeOut hdue, tickTimer1_countIf .tbOvf (by exact h)]
    refine ⟨rfl, rfl, Timer.countIf_congr _ ?_⟩
    simp only [hdue, and_true]
  · rw [tickTimeBase_count (Nat.not_le.mp hdue), Timer.countIf_neg _ fun ⟨_, _, _, h⟩ => hdue h]
    exact ⟨rfl, rfl, rfl⟩

/-- An RTC time-out counts timer 0 with TN2 = 0 (R331, R352). -/
theorem tickRtc_countIf (h : s.t0.tn2 = false → s.t0.counts) :
    (tickRtc s).t1 = s.t1 ∧ (tickRtc s).tPhase = s.tPhase ∧
    (tickRtc s).t0 = s.t0.countIf (s.t0.takesClocks = true ∧ s.t0.tn2 = false ∧
      2 ^ (8 + s.rt.toNat) ≤ s.rtcCnt.toNat + 1) := by
  by_cases hdue : 2 ^ (8 + s.rt.toNat) ≤ s.rtcCnt.toNat + 1
  · rw [tickRtc_timeOut hdue]
    cases htn2 : s.t0.tn2
    · have hcounts : s.rtcTimedOut.t0.counts := h htn2
      rw [if_neg Bool.false_ne_true, clockTimer0_countIf hcounts]
      exact ⟨rfl, rfl, Timer.countIf_congr _ (and_iff_left ⟨rfl, hdue⟩).symm⟩
    · rw [if_pos rfl, Timer.countIf_neg _ fun ⟨_, h, _⟩ => Bool.noConfusion h]
      exact ⟨rfl, rfl, rfl⟩
  · rw [tickRtc_count (Nat.not_le.mp hdue), Timer.countIf_neg _ fun ⟨_, _, h⟩ => hdue h]
    exact ⟨rfl, rfl, rfl⟩

theorem fsChains_countIf (h0 : s.t0.tn2 = false → s.t0.counts)
    (h1 : s.t1.tn2 = false → s.opt.t1Clk = .tbOvf → s.t1.counts) :
    (fsChains s).tPhase = s.tPhase ∧
    (fsChains s).t0 = s.t0.countIf (s.t0.takesClocks = true ∧ s.t0.tn2 = false ∧
      2 ^ (8 + s.rt.toNat) ≤ s.rtcCnt.toNat + 1) ∧
    (fsChains s).t1 = s.t1.countIf (s.t1.takesClocks = true ∧ s.t1.tn2 = false ∧ s.opt.t1Clk = .tbOvf ∧
      2 ^ s.opt.tbDiv ≤ s.tbCnt.toNat + 1) := by
  obtain ⟨ht0, hphase, ht1⟩ := tickTimeBase_countIf h1
  obtain ⟨hrtc, -, hrt, -⟩ := tickTimeBase_others s
  obtain ⟨ht1', hphase', ht0'⟩ := tickRtc_countIf (s := tickTimeBase s) (by rwa [ht0])
  simp only [ht0, hrt, hrtc] at ht0'
  rw [fsChains]
  generalize tickRtc (tickTimeBase s) = u at *
  exact ⟨hphase'.trans hphase, ht0', ht1'.trans ht1⟩

/-- The time-outs behind a cycle of system clock/4 count what that cycle has not counted (R331, R346). -/
theorem fsChains_after_fourthClock (h0 : s.t0.counts) (h1 : s.t1.counts) :
    (fsChains (div4Timers (sysTimers s))).tPhase = s.tPhase + 1 ∧
    (fsChains (div4Timers (sysTimers s))).t0 = s.t0.countIf (s.t0.takesClocks = true ∧
      (s.t0.tn2 = true ∨ 2 ^ (8 + s.rt.toNat) ≤ s.rtcCnt.toNat + 1)) ∧
    (fsChains (div4Timers (sysTimers s))).t1 = s.t1.countIf (s.t1.takesClocks = true ∧
      (s.t1.tn2 = true ∨ s.opt.t1Clk = .sys ∨
        (s.opt.t1Clk = .tbOvf ∧ 2 ^ s.opt.tbDiv ≤ s.tbCnt.toNat + 1))) := by
  rw [fourthClock_countIf h0 h1]
  obtain ⟨hphase, ht0, ht1⟩ := fsChains_countIf (s := s.withTimers (s.tPhase + 1)
      (s.t0.countIf (s.t0.takesClocks = true ∧ s.t0.tn2 = true))
      (s.t1.countIf (s.t1.takesClocks = true ∧ ((s.t1.tn2 = false ∧ s.opt.t1Clk = .sys) ∨ s.t1.tn2 = true))))
    (fun htn2 => by
      have hnot : ¬ (s.t0.takesClocks = true ∧ s.t0.tn2 = true) := fun h => Bool.noConfusion (h.2.symm.trans htn2)
      simpa only [State.withTimers, Timer.countIf_neg _ hnot] using h0)
    (fun htn2 hclk => by
      have hnot : ¬ (s.t1.takesClocks = true ∧ ((s.t1.tn2 = false ∧ s.opt.t1Clk = .sys) ∨ s.t1.tn2 = true)) := by
        rintro ⟨-, ⟨-, h⟩ | h⟩
        · exact Config.T1Clk.noConfusion (h.symm.trans hclk)
        · exact Bool.noConfusion (h.symm.trans htn2)
      simpa only [State.withTimers, Timer.countIf_neg _ hnot] using h1)
  have hclk0 : (s.t0.countIf (s.t0.takesClocks = true ∧ s.t0.tn2 = true)).countIf (s.t0.takesClocks = true ∧
      s.t0.tn2 = false ∧ 2 ^ (8 + s.rt.toNat) ≤ s.rtcCnt.toNat + 1) = s.t0.countIf (s.t0.takesClocks = true ∧
      (s.t0.tn2 = true ∨ 2 ^ (8 + s.rt.toNat) ≤ s.rtcCnt.toNat + 1)) := by
    rw [Timer.countIf_or _ (by cases s.t0.tn2 <;> simp)]
    exact Timer.countIf_congr _ (by cases s.t0.tn2 <;> simp)
  have hclk1 : (s.t1.countIf (s.t1.takesClocks = true ∧
      ((s.t1.tn2 = false ∧ s.opt.t1Clk = .sys) ∨ s.t1.tn2 = true))).countIf (s.t1.takesClocks = true ∧
      s.t1.tn2 = false ∧ s.opt.t1Clk = .tbOvf ∧ 2 ^ s.opt.tbDiv ≤ s.tbCnt.toNat + 1) =
      s.t1.countIf (s.t1.takesClocks = true ∧ (s.t1.tn2 = true ∨ s.opt.t1Clk = .sys ∨
        (s.opt.t1Clk = .tbOvf ∧ 2 ^ s.opt.tbDiv ≤ s.tbCnt.toNat + 1))) := by
    rw [Timer.countIf_or _ (by cases s.t1.tn2 <;> cases s.opt.t1Clk <;> simp)]
    exact Timer.countIf_congr _ (by cases s.t1.tn2 <;> simp [and_or_left])
  exact ⟨hphase, ht0.trans hclk0, ht1.trans hclk1⟩

/-! ## The step of each event -/

/-- Count events without an overflow, and the phase of the system clock, bear on no pad. -/
theorem wakeByPads_withTimers (ph : BitVec 2) :
    wakeByPads s (s.withTimers ph (s.t0.countIf p) (s.t1.countIf q)) =
      s.withTimers ph (s.t0.countIf p) (s.t1.countIf q) := by
  have hpads (fl : Byte) (i : Nat) :
      (s.withTimers ph (s.t0.countIf p) (s.t1.countIf q)).paPad fl i = s.paPad fl i := rfl
  have hlevel : (s.withTimers ph (s.t0.countIf p) (s.t1.countIf q)).paLevel = s.paLevel := rfl
  have hfalls : paFalls s (s.withTimers ph (s.t0.countIf p) (s.t1.countIf q)) = false := by
    simp [paFalls, hpads, hlevel]
  rw [wakeByPads, if_neg (by simp [hfalls])]

/-- In HALT the system clock stands unless it is the 32768Hz crystal, and with it its timers (R327). -/
theorem step_of_stopped_sysClock
    (henv : s.env = .sysClock :: rest ∨ s.env = .unit .timer0 :: rest ∨ s.env = .unit .timer1 :: rest)
    (hhalt : s.halted = true) (hosc : s.opt.osc ≠ .crystal32768) : step s = .next { s with env := rest } := by
  have hruns : State.sysClockRuns { s with env := rest } = false := by simp [State.sysClockRuns, hhalt, hosc]
  obtain henv | henv | henv := henv
  · rw [step_event henv]
    simp only [eventStep, sysTick_of_stopped hruns, wakeByPads_self]
  · rw [step_unit henv]
    simp only [unitTick, hruns, Bool.false_and, Bool.false_eq_true, if_false, wakeByPads_self]
  · rw [step_unit henv]
    simp only [unitTick, hruns, Bool.false_and, Bool.false_eq_true, if_false, wakeByPads_self]

/-- A cycle of its clock at timer 0 alone (log 15). -/
theorem step_timer0 (henv : s.env = .unit .timer0 :: rest)
    (hruns : s.halted = false ∨ s.opt.osc = .crystal32768) (htn2 : s.t0.tn2 = true)
    (htakes : s.t0.takesClocks = true) :
    step s = .next (wakeByPads { s with env := rest } (countTimer0 { s with env := rest })) := by
  have hclock : clockTimer0 { s with env := rest } = countTimer0 { s with env := rest } := clockTimer0_taken htakes
  have hsys : State.sysClockRuns { s with env := rest } = true := sysClockRuns_of hruns
  rw [step_unit henv]
  simp only [unitTick, hsys, htn2, Bool.and_self, if_true, hclock]

theorem step_timer1 (henv : s.env = .unit .timer1 :: rest)
    (hruns : s.halted = false ∨ s.opt.osc = .crystal32768) (hclk : s.t1.tn2 = true ∨ s.opt.t1Clk = .sys)
    (htakes : s.t1.takesClocks = true) :
    step s = .next (wakeByPads { s with env := rest } (countTimer1 { s with env := rest })) := by
  have hclock : clockTimer1 { s with env := rest } = countTimer1 { s with env := rest } := clockTimer1_taken htakes
  have hsys : State.sysClockRuns { s with env := rest } = true := sysClockRuns_of hruns
  have hselect : (s.t1.tn2 || decide (s.opt.t1Clk = .sys)) = true := by simpa using hclk
  rw [step_unit henv]
  simp only [unitTick, hsys, hselect, Bool.and_self, if_true, hclock]

theorem step_timer0_untaken (henv : s.env = .unit .timer0 :: rest)
    (h : s.t0.tn2 = false ∨ s.t0.takesClocks = false) : step s = .next { s with env := rest } := by
  have htick : unitTick .timer0 { s with env := rest } = { s with env := rest } := by
    obtain h | h := h
    · simp only [unitTick, h, Bool.and_false, Bool.false_eq_true, if_false]
    · exact (congrArg (ite _ · _) (clockTimer0_untaken (s := { s with env := rest }) h)).trans (ite_self _)
  rw [step_unit henv, htick, wakeByPads_self]

theorem step_timer1_untaken (henv : s.env = .unit .timer1 :: rest)
    (h : (s.t1.tn2 = false ∧ s.opt.t1Clk ≠ .sys) ∨ s.t1.takesClocks = false) :
    step s = .next { s with env := rest } := by
  have htick : unitTick .timer1 { s with env := rest } = { s with env := rest } := by
    obtain ⟨htn2, hclk⟩ | h := h
    · simp only [unitTick, htn2, hclk, decide_false, Bool.or_self, Bool.and_false, Bool.false_eq_true, if_false]
    · exact (congrArg (ite _ · _) (clockTimer1_untaken (s := { s with env := rest }) h)).trans (ite_self _)
  rw [step_unit henv, htick, wakeByPads_self]

/-- A step of the units and the wake-up pads: the units' state but for HALT, which never begins so. -/
theorem step_units_cases (hstep : step s = .next (wakeByPads t u)) (h : OnlyRaises t u) :
    ∃ v, step s = .next v ∧ v = { u with halted := v.halted } ∧ (t.halted = false → v.halted = false) :=
  ⟨_, hstep, wakeByPads_eq t u, fun hrun => (wakeByPads_halted_iff t u).mpr (.inr (h.keepsRunning hrun))⟩

/-- Below the overflow the timer's own clock adds one, and no pad moves. -/
theorem step_timer0_below (henv : s.env = .unit .timer0 :: rest)
    (hruns : s.halted = false ∨ s.opt.osc = .crystal32768) (htn2 : s.t0.tn2 = true)
    (htakes : s.t0.takesClocks = true) (h : s.t0.counts) :
    step s = .next { s with env := rest, t0 := { s.t0 with cnt := s.t0.cnt + 1 } } := by
  have hcount := countTimer0_below (s := { s with env := rest }) ((Timer.takesClocks_iff _).mp htakes).1 h.1 h.2
  have hwake := wakeByPads_withTimers (s := { s with env := rest }) (p := True) (q := False) s.tPhase
  simp only [Timer.countIf, if_true, if_false] at hwake
  rw [step_timer0 henv hruns htn2 htakes, hcount]
  exact congrArg Host.Outcome.next hwake

theorem step_timer1_below (henv : s.env = .unit .timer1 :: rest)
    (hruns : s.halted = false ∨ s.opt.osc = .crystal32768) (hclk : s.t1.tn2 = true ∨ s.opt.t1Clk = .sys)
    (htakes : s.t1.takesClocks = true) (h : s.t1.counts) :
    step s = .next { s with env := rest, t1 := { s.t1 with cnt := s.t1.cnt + 1 } } := by
  have hcount := countTimer1_below (s := { s with env := rest }) ((Timer.takesClocks_iff _).mp htakes).1 h.1 h.2
  have hwake := wakeByPads_withTimers (s := { s with env := rest }) (p := False) (q := True) s.tPhase
  simp only [Timer.countIf, if_true, if_false] at hwake
  rw [step_timer1 henv hruns hclk htakes, hcount]
  exact congrArg Host.Outcome.next hwake

/-- A cycle of fs runs at the unit in its own event (R346). -/
theorem fsRuns_of_fsCycleAt {c : ClockedUnit} (h : s.fsCycleAt c (.unit c)) : s.fsRuns = true := by
  obtain ⟨-, hruns⟩ | ⟨-, he | he⟩ := fsCycleAt_cases h
  · exact hruns
  · cases he
  · cases he

theorem step_rtc_counts (henv : s.env = .unit .rtc :: rest) (h : s.fsCycleAt .rtc (.unit .rtc)) (h0 : s.t0.counts) :
    ∃ t, step s = .next t ∧ t.t1 = s.t1 ∧ t.t0 = s.t0.countIf (s.t0.takesClocks = true ∧ s.t0.tn2 = false ∧
      2 ^ (8 + s.rt.toNat) ≤ s.rtcCnt.toNat + 1) := by
  obtain ⟨ht1, -, ht0⟩ := tickRtc_countIf (s := { s with env := rest }) fun _ => h0
  refine ⟨_, step_unit henv, ?_⟩
  rw [wakeByPads_eq, unitTick, if_pos (by exact fsRuns_of_fsCycleAt h)]
  exact ⟨ht1, ht0⟩

theorem step_timeBase_counts (henv : s.env = .unit .timeBase :: rest) (h : s.fsCycleAt .timeBase (.unit .timeBase))
    (h1 : s.t1.counts) : ∃ t, step s = .next t ∧ t.t0 = s.t0 ∧
      t.t1 = s.t1.countIf (s.t1.takesClocks = true ∧ s.t1.tn2 = false ∧ s.opt.t1Clk = .tbOvf ∧
        2 ^ s.opt.tbDiv ≤ s.tbCnt.toNat + 1) := by
  obtain ⟨ht0, -, ht1⟩ := tickTimeBase_countIf (s := { s with env := rest }) fun _ _ => h1
  refine ⟨_, step_unit henv, ?_⟩
  rw [wakeByPads_eq, unitTick, if_pos (by exact fsRuns_of_fsCycleAt h)]
  exact ⟨ht0, ht1⟩

/-- A cycle of the system clock that is no cycle of fs (R331). -/
theorem step_sysClock_counts (henv : s.env = .sysClock :: rest)
    (hruns : s.halted = false ∨ s.opt.osc = .crystal32768) (h : s.opt.wdtClk ≠ .sysDiv4 ∨ s.tPhase ≠ 3)
    (h0 : s.t0.counts) (h1 : s.t1.counts) : step s = .next (State.withTimers { s with env := rest } (s.tPhase + 1)
      (s.t0.countIf (s.t0.takesClocks = true ∧ s.t0.tn2 = true ∧ (s.opt.t0Clk = .sys ∨ s.tPhase = 3)))
      (s.t1.countIf (s.t1.takesClocks = true ∧
        ((s.t1.tn2 = false ∧ s.opt.t1Clk = .sys) ∨ (s.t1.tn2 = true ∧ s.tPhase = 3))))) := by
  have hsys : State.sysClockRuns { s with env := rest } = true := sysClockRuns_of hruns
  rw [step_event henv, ← wakeByPads_withTimers (s := { s with env := rest })]
  simp only [eventStep]
  by_cases hphase : s.tPhase = 3
  · rw [sysTick_of_phase3_timers hsys hphase (h.resolve_right (not_not_intro hphase)),
      fourthClock_countIf (by exact h0) (by exact h1)]
    simp only [hphase, or_true, and_true]
  · rw [sysTick_of_phase_ne hsys hphase, sysTimers_countIf (by exact h0) (by exact h1)]
    simp only [hphase, or_false, and_false]

/-- A fourth system clock that is a cycle of fs: system clock/4, then the time-outs (R331, R346). -/
theorem step_fourthClock_counts (henv : s.env = .sysClock :: rest)
    (hruns : s.halted = false ∨ s.opt.osc = .crystal32768) (hclk : s.opt.wdtClk = .sysDiv4) (hphase : s.tPhase = 3)
    (hwdt : s.opt.wdtEn = false ∨ s.wdtCnt ≠ 0xFFFF) (h0 : s.t0.counts) (h1 : s.t1.counts) :
    ∃ t, step s = .next t ∧ t.tPhase = 0 ∧
      t.t0 = s.t0.countIf (s.t0.takesClocks = true ∧
        (s.t0.tn2 = true ∨ 2 ^ (8 + s.rt.toNat) ≤ s.rtcCnt.toNat + 1)) ∧
      t.t1 = s.t1.countIf (s.t1.takesClocks = true ∧ (s.t1.tn2 = true ∨ s.opt.t1Clk = .sys ∨
        (s.opt.t1Clk = .tbOvf ∧ 2 ^ s.opt.tbDiv ≤ s.tbCnt.toNat + 1))) := by
  obtain ⟨u, t, hu, hstep, ht, -⟩ := step_fsCycle_quiet henv (.inr ⟨hclk, hruns, .inl ⟨rfl, hphase⟩⟩) hwdt
  obtain ⟨htPhase, ht0, ht1⟩ := fsChains_after_fourthClock (s := { s with env := rest }) h0 h1
  rw [beforeWatchdog] at hu
  rw [hu] at htPhase ht0 ht1
  refine ⟨t, hstep, ?_, (congrArg State.t0 ht).trans ht0, (congrArg State.t1 ht).trans ht1⟩
  exact (congrArg State.tPhase ht).trans (htPhase.trans (by rw [hphase]; rfl))

theorem step_fsCycle_counts (henv : s.env = .fsCycle :: rest) (hclk : s.opt.wdtClk ≠ .sysDiv4)
    (hwdt : s.opt.wdtEn = false ∨ s.wdtCnt ≠ 0xFFFF) (h0 : s.t0.counts) (h1 : s.t1.counts) :
    ∃ t, step s = .next t ∧
      t.t0 = s.t0.countIf (s.t0.takesClocks = true ∧ s.t0.tn2 = false ∧
        2 ^ (8 + s.rt.toNat) ≤ s.rtcCnt.toNat + 1) ∧
      t.t1 = s.t1.countIf (s.t1.takesClocks = true ∧ s.t1.tn2 = false ∧ s.opt.t1Clk = .tbOvf ∧
        2 ^ s.opt.tbDiv ≤ s.tbCnt.toNat + 1) := by
  obtain ⟨u, t, hu, hstep, ht, -⟩ := step_fsCycle_quiet henv (.inl ⟨hclk, .inl rfl⟩) hwdt
  obtain ⟨-, ht0, ht1⟩ := fsChains_countIf (s := { s with env := rest }) (fun _ => h0) fun _ _ => h1
  rw [beforeWatchdog] at hu
  rw [hu] at ht0 ht1
  exact ⟨t, hstep, (congrArg State.t0 ht).trans ht0, (congrArg State.t1 ht).trans ht1⟩

/-- Settles O60: one clause for each event. -/
theorem timerClockSources : Obligations.TimerClockSources := by
  refine fun s rest => ⟨step_of_stopped_sysClock, fun henv => ⟨fun ⟨hruns, htn2, htakes⟩ => ?_,
    step_timer0_untaken henv⟩, fun henv => ⟨fun ⟨hruns, hclk, htakes⟩ => ?_, step_timer1_untaken henv⟩,
    fun hb0 hb1 hc0 hc1 => ?_⟩
  · have hcases := step_units_cases (step_timer0 henv hruns htn2 htakes) (countTimer0_onlyRaises _)
    exact hcases
  · have hcases := step_units_cases (step_timer1 henv hruns hclk htakes) (countTimer1_onlyRaises _)
    exact hcases
  · have h0 : s.t0.counts := ⟨hb0, hc0⟩
    have h1 : s.t1.counts := ⟨hb1, hc1⟩
    exact ⟨fun henv hruns htn2 htakes => step_timer0_below henv hruns htn2 htakes h0,
      fun henv hruns hclk htakes => step_timer1_below henv hruns hclk htakes h1,
      fun henv h => step_rtc_counts henv h h0,
      fun henv h => step_timeBase_counts henv h h1,
      fun henv hruns h => step_sysClock_counts henv hruns h h0 h1,
      fun henv hruns hclk hphase hwdt => step_fourthClock_counts henv hruns hclk hphase hwdt h0 h1,
      fun henv hclk hwdt => step_fsCycle_counts henv hclk hwdt h0 h1⟩

end Sys2Proof.Machine
end

section
/-! PROOF. The instruction cycles: what each operand form spends, the row of R420's table each of the 63 instructions
has, and the legality of the state after reset. -/

namespace Sys2Proof

/-- JMP, CALL, RET, RET A,x and RETI: the instructions that always transfer control. -/
def Instr.isTransfer (i : Instr) : Bool :=
  match i with
  | .jmp _ | .call _ | .ret | .retX _ | .reti => true
  | _ => false

theorem Instr.isTransfer_iff (i : Instr) :
    i.isTransfer = true ↔ (∃ a, i = .jmp a ∨ i = .call a) ∨ i.isReturn = true := by
  cases i <;> simp [isTransfer, isReturn]

end Sys2Proof

namespace Sys2Proof.Machine

variable {i : Instr} {l : Loc} {m v x : Byte} {s s1 t : State}

/-! ## What each operand form spends -/

/-- The dummy cycle of the control transfer where the instruction's destination is PCL (R25, R420). -/
def pclCycles (i : Instr) (s : State) : Nat := if storeTarget i s = some Loc.pcl then 1 else 0

theorem pclCycles_of_pcl (h : storeTarget i s = some Loc.pcl) : pclCycles i s = 1 := if_pos h

theorem pclCycles_of_ne (h : storeTarget i s ≠ some Loc.pcl) : pclCycles i s = 0 := if_neg h

theorem storeTarget_of_no_operand (hi : i.storeOperand = none) : storeTarget i s = none := by
  simp only [storeTarget, hi]

theorem pclCycles_of_no_operand (hi : i.storeOperand = none) : pclCycles i s = 0 :=
  pclCycles_of_ne (by rw [storeTarget_of_no_operand hi]; nofun)

/-- After the fetch and the read of its operand, an instruction's store spends the dummy cycle of PCL and no other. -/
theorem storeLoc_cycles (hi : i.storeOperand = some m) (hl : resolve m s = .ok l) (hr : ReadEffect (fetched s) s1)
    (hw : storeLoc l v s1 = .ok t) : t.cycles = s.cycles + 1 + pclCycles i s := by
  obtain ⟨s2, hw2, rfl⟩ := storeLoc_cases hw
  have hread : CoreFrame none (fetched s) s1 := hr.core
  have hcycles : s2.cycles = s.cycles + 1 := (writeLoc_cycles hw2).trans (hread.cycles nofun)
  have htarget := storeTarget_of_resolve hi hl
  split
  · next hpcl => rw [dummyCycle_cycles, hcycles, pclCycles_of_pcl (htarget.trans (congrArg some hpcl))]
  · next hne => rw [hcycles, pclCycles_of_ne (by rw [htarget]; simpa using hne), Nat.add_zero]

theorem accFromMem_cycles {f : AluOp} (hi : i.storeOperand = none) (h : accFromMem f m s = .next t) :
    t.cycles = s.cycles + 1 + pclCycles i s := by
  obtain ⟨v, s1, hr, rfl⟩ := accFromMem_next h
  obtain ⟨-, hcycles, -, -⟩ := memRead_fetched_core hr
  rw [pclCycles_of_no_operand hi]
  exact hcycles

theorem accFromImm_cycles {f : AluOp} (hi : i.storeOperand = none) (h : accFromImm f x s = .next t) :
    t.cycles = s.cycles + 1 + pclCycles i s := by
  cases accFromImm_next h
  rw [pclCycles_of_no_operand hi]
  rfl

theorem memFromMem_cycles {f : AluOp} (hi : i.storeOperand = some m) (h : memFromMem f m s = .next t) :
    t.cycles = s.cycles + 1 + pclCycles i s := by
  obtain ⟨l, v, s1, s2, hl, -, hr, hw, rfl⟩ := memFromMem_next h
  have hcycles := storeLoc_cycles hi hl (readLoc_effect hr) hw
  exact hcycles

theorem execDaa_cycles (hi : i.storeOperand = some m) (h : execDaa m s = .next t) :
    t.cycles = s.cycles + 1 + pclCycles i s := by
  obtain ⟨l, r, c, s1, hl, -, -, hw, rfl⟩ := execDaa_next h
  have hcycles := storeLoc_cycles hi hl (ReadEffect.refl _) hw
  exact hcycles

theorem memUpdate_cycles {g : Byte → Byte} (hi : i.storeOperand = some m) (h : memUpdate g m s = .next t) :
    t.cycles = s.cycles + 1 + pclCycles i s := by
  obtain ⟨l, v, s1, hl, hr, hw⟩ := memUpdate_next h
  exact storeLoc_cycles hi hl (readLoc_effect hr) hw

theorem memStore_cycles (hi : i.storeOperand = some m) (h : memStore v m s = .next t) :
    t.cycles = s.cycles + 1 + pclCycles i s := by
  obtain ⟨l, hl, hw⟩ := memStore_next h
  exact storeLoc_cycles hi hl (ReadEffect.refl _) hw

theorem clearsWatchdog_cycles (hi : i.clearsWatchdog = true) (hstore : i.storeOperand = none)
    (h : exec i s = .next t) : t.cycles = s.cycles + 1 + pclCycles i s := by
  have hcore : CoreFrame none (fetched s) t := (clearsWatchdog_effect hi h).core
  rw [pclCycles_of_no_operand hstore]
  exact hcore.cycles nofun

/-! ## Skips, returns and table reads -/

/-- The two outcomes of a skip: the next instruction after one cycle, or the one behind it after two (R230). -/
def SkipOutcome (s t : State) : Prop :=
  (t.pc = s.pc + 1 ∧ t.cycles = s.cycles + 1) ∨ (t.pc = s.pc + 2 ∧ t.cycles = s.cycles + 2)

theorem skipIf_outcome (b : Bool) (hpc : s1.pc = s.pc + 1) (hcycles : s1.cycles = s.cycles + 1) :
    SkipOutcome s (skipIf b s1) := by
  rw [skipIf_after_fetch hpc hcycles (Iff.refl (b = true))]
  cases b with
  | false => exact .inl ⟨rfl, rfl⟩
  | true => exact .inr ⟨rfl, rfl⟩

/-- What an instruction that can skip spends, with a destination PCL and without (R25, R230). -/
def SkipCycles (i : Instr) (s t : State) : Prop :=
  (storeTarget i s = some Loc.pcl → t.cycles = s.cycles + 2) ∧ (storeTarget i s ≠ some Loc.pcl → SkipOutcome s t)

theorem SkipCycles.of_no_operand (hi : i.storeOperand = none) (h : SkipOutcome s t) : SkipCycles i s t := by
  rw [SkipCycles, storeTarget_of_no_operand hi]
  exact ⟨nofun, fun _ => h⟩

theorem testSkip_cycles {p : Byte → Bool} (hi : i.storeOperand = none) (h : testSkip p m s = .next t) :
    SkipCycles i s t := by
  obtain ⟨v, s1, hr, rfl⟩ := testSkip_next h
  obtain ⟨hpc, hcycles, -, -⟩ := memRead_fetched_core hr
  exact .of_no_operand hi (skipIf_outcome _ hpc hcycles)

theorem accSkip_cycles {g : Byte → Byte} (hi : i.storeOperand = none) (h : accSkip g m s = .next t) :
    SkipCycles i s t := by
  obtain ⟨v, s1, hr, rfl⟩ := accSkip_next h
  obtain ⟨hpc, hcycles, -, -⟩ := memRead_fetched_core hr
  exact .of_no_operand hi (skipIf_outcome (s1 := { s1 with acc := g v }) _ hpc hcycles)

/-- SIZ and SDZ do not skip where they write PCL (R26), so there they spend PCL's dummy cycle alone. -/
theorem stepSkip_cycles {g : Byte → Byte} (hi : i.storeOperand = some m) (h : stepSkip g m s = .next t) :
    SkipCycles i s t := by
  obtain ⟨l, v, s1, s2, hl, hr, hnoskip, hw, rfl⟩ := stepSkip_next h
  have hcycles := storeLoc_cycles hi hl (readLoc_effect hr) hw
  have htarget := storeTarget_of_resolve hi hl
  refine ⟨fun hpcl => ?_, fun hne => skipIf_outcome _ ?_ ?_⟩
  · have hz : g v ≠ 0 := fun hz => hnoskip ⟨Option.some.inj (htarget.symm.trans hpcl), hz⟩
    rw [decide_eq_false hz, skipIf_false, hcycles, pclCycles_of_pcl hpcl]
  · have hframe := (readLoc_effect hr).core.trans (storeLoc_core hw)
    exact hframe.pc (htarget ▸ hne)
  · rw [hcycles, pclCycles_of_ne hne]

/-- A table read into PCL spends a free number of cycles more (log 9). -/
theorem tableRead_cycles {a : PAddr} (hi : i.storeOperand = some m) (h : tableRead a m s = .next t) :
    s.cycles + 2 ≤ t.cycles ∧ (storeTarget i s ≠ some Loc.pcl → t.cycles = s.cycles + 2) := by
  obtain ⟨l, s1, hl, hw, ht⟩ := tableRead_next h
  have hcycles : s1.cycles = s.cycles + 1 := writeLoc_cycles hw
  obtain ⟨-, rfl⟩ | ⟨hpcl, rfl⟩ := ht
  · exact ⟨by dsimp only; omega, fun _ => by dsimp only; omega⟩
  · have htarget := (storeTarget_of_resolve hi hl).trans (congrArg some hpcl)
    exact ⟨by dsimp only; omega, fun hne => absurd htarget hne⟩

theorem execRet_cycles (h : execRet s = .next t) : t.cycles = s.cycles + 2 := by
  obtain ⟨a, rest, -, rfl⟩ := popPc_cases ((outcome_next _ _).mp h)
  rfl

theorem execRetX_cycles (h : execRetX x s = .next t) : t.cycles = s.cycles + 2 := by
  have h' := (outcome_next _ _).mp h
  split at h'
  · next hpop =>
    obtain ⟨a, rest, -, rfl⟩ := popPc_cases hpop
    cases h'
    rfl
  · cases h'

theorem execReti_cycles (h : execReti s = .next t) : t.cycles = s.cycles + 2 := by
  obtain ⟨a, rest, -, rfl⟩ := returnFromInterrupt_cases ((outcome_next _ _).mp h)
  rfl

/-! ## The table of cycles -/

/-- The row of R420's table that the instruction `i` has, with what it spends from `s` to `t`. -/
inductive CyclesRow (i : Instr) (s t : State) : Prop where
  | transfer : i.isTransfer = true → i.isSkip = false → i.isTableRead = false →
      t.cycles = s.cycles + 2 → CyclesRow i s t
  | skip : i.isTransfer = false → i.isSkip = true → i.isTableRead = false → SkipCycles i s t → CyclesRow i s t
  | tableRead : i.isTransfer = false → i.isSkip = false → i.isTableRead = true →
      s.cycles + 2 ≤ t.cycles ∧ (storeTarget i s ≠ some Loc.pcl → t.cycles = s.cycles + 2) → CyclesRow i s t
  | plain : i.isTransfer = false → i.isSkip = false → i.isTableRead = false →
      t.cycles = s.cycles + 1 + pclCycles i s → CyclesRow i s t

theorem exec_cyclesRow (h : exec i s = .next t) : CyclesRow i s t := by
  cases i with
  | addA _ | adcA _ | subA _ | sbcA _ | andA _ | orA _ | xorA _ | cplA _ | incA _ | decA _
  | rrA _ | rrcA _ | rlA _ | rlcA _ | movA _ | swapA _ => exact .plain rfl rfl rfl (accFromMem_cycles rfl h)
  | addX _ | subX _ | andX _ | orX _ | xorX _ | movX _ => exact .plain rfl rfl rfl (accFromImm_cycles rfl h)
  | addM _ | adcM _ | subM _ | sbcM _ | andM _ | orM _ | xorM _ | cpl _ | inc _ | dec _ | rrc _ | rlc _ =>
    exact .plain rfl rfl rfl (memFromMem_cycles rfl h)
  | daa _ => exact .plain rfl rfl rfl (execDaa_cycles rfl h)
  | rr _ | rl _ | clrBit _ _ | setBit _ _ | swap _ => exact .plain rfl rfl rfl (memUpdate_cycles rfl h)
  | movM _ | clrAll _ | setAll _ => exact .plain rfl rfl rfl (memStore_cycles rfl h)
  | sz _ | szBit _ _ | snzBit _ _ => exact .skip rfl rfl rfl (testSkip_cycles rfl h)
  | szA _ | sizA _ | sdzA _ => exact .skip rfl rfl rfl (accSkip_cycles rfl h)
  | siz _ | sdz _ => exact .skip rfl rfl rfl (stepSkip_cycles rfl h)
  | tabrdc _ | tabrdl _ => exact .tableRead rfl rfl rfl (tableRead_cycles rfl h)
  | nop =>
    cases h
    exact .plain rfl rfl rfl rfl
  | jmp _ | call _ =>
    cases h
    exact .transfer rfl rfl rfl rfl
  | ret => exact .transfer rfl rfl rfl (execRet_cycles h)
  | retX _ => exact .transfer rfl rfl rfl (execRetX_cycles h)
  | reti => exact .transfer rfl rfl rfl (execReti_cycles h)
  | clrWdt | clrWdt1 | clrWdt2 | halt => exact .plain rfl rfl rfl (clearsWatchdog_cycles rfl rfl h)

theorem CyclesRow.of_transfer (h : CyclesRow i s t) (hi : i.isTransfer = true) : t.cycles = s.cycles + 2 := by
  cases h with
  | transfer _ _ _ hcycles => exact hcycles
  | skip hno _ _ _ | tableRead hno _ _ _ | plain hno _ _ _ => exact absurd hi (by simp [hno])

theorem CyclesRow.of_tableRead (h : CyclesRow i s t) (hi : i.isTableRead = true) :
    s.cycles + 2 ≤ t.cycles ∧ (storeTarget i s ≠ some Loc.pcl → t.cycles = s.cycles + 2) := by
  cases h with
  | tableRead _ _ _ hcycles => exact hcycles
  | transfer _ _ hno _ | skip _ _ hno _ | plain _ _ hno _ => exact absurd hi (by simp [hno])

theorem CyclesRow.of_skip (h : CyclesRow i s t) (hi : i.isSkip = true) (hne : storeTarget i s ≠ some Loc.pcl) :
    SkipOutcome s t := by
  cases h with
  | skip _ _ _ hcycles => exact hcycles.2 hne
  | transfer _ hno _ _ | tableRead _ hno _ _ | plain _ hno _ _ => exact absurd hi (by simp [hno])

/-- PCL as the destination: the row `transfer` has no destination, but the same two cycles. -/
theorem CyclesRow.of_pcl (h : CyclesRow i s t) (hi : i.isTableRead = false) (hpcl : storeTarget i s = some Loc.pcl) :
    t.cycles = s.cycles + 2 := by
  cases h with
  | transfer _ _ _ hcycles => exact hcycles
  | skip _ _ _ hcycles => exact hcycles.1 hpcl
  | tableRead _ _ htable _ => exact absurd htable (by simp [hi])
  | plain _ _ _ hcycles => rw [hcycles, pclCycles_of_pcl hpcl]

theorem CyclesRow.of_plain (h : CyclesRow i s t) (hskip : i.isSkip = false) (htable : i.isTableRead = false)
    (htransfer : i.isTransfer = false) (hne : storeTarget i s ≠ some Loc.pcl) : t.cycles = s.cycles + 1 := by
  cases h with
  | transfer hi _ _ _ => exact absurd hi (by simp [htransfer])
  | skip _ hi _ _ => exact absurd hi (by simp [hskip])
  | tableRead _ _ hi _ => exact absurd hi (by simp [htable])
  | plain _ _ _ hcycles => rw [hcycles, pclCycles_of_ne hne]

/-- Settles O40: every instruction has its row of R420's table. -/
theorem cyclesFollowTheTable : Obligations.CyclesFollowTheTable := by
  intro i s t h
  have hrow := exec_cyclesRow h
  refine ⟨fun htransfer => hrow.of_transfer (i.isTransfer_iff.mpr ?_), hrow.of_tableRead, hrow.of_skip, hrow.of_pcl,
    fun hskip htable hreturn hjump => hrow.of_plain hskip htable (Bool.eq_false_iff.mpr fun htransfer => ?_)⟩
  · obtain hjmp | hcall | hreturn := htransfer
    · exact .inl ⟨t.pc, .inl hjmp⟩
    · exact .inl ⟨t.pc, .inr hcall⟩
    · exact .inr hreturn
  · obtain ⟨a, hjmp | hcall⟩ | hret := i.isTransfer_iff.mp htransfer
    · exact (hjump a).1 hjmp
    · exact (hjump a).2 hcall
    · exact Bool.false_ne_true (hreturn.symm.trans hret)

/-! ## The state after reset -/

/-- A chip reset turns the timer off, whatever its counter and preload hold (R401, log 1). -/
theorem Timer.afterReset_legal (cnt pre : Byte) : (Timer.afterReset cnt pre).legal = true := rfl

/-- Settles O43: the memories and the stack are empty and both timers are off; no register that is unknown after
power-on enters (log 1). -/
theorem resetStateIsLegal : Obligations.ResetStateIsLegal :=
  (legal_iff _).mpr ⟨⟨rfl, Timer.afterReset_legal 0 0, Timer.afterReset_legal 0 0⟩, Nat.zero_le 6⟩

end Sys2Proof.Machine
end
